-- ==== Sys2Proof/Word.lean ====
section
/-!
DEFINITION. The word types of the 4C24: bytes of the host link and the 32-bit configuration tag. Values of signal
records are plain integers (00_scope, "Numbers and units": signed 32-bit integers kept within a record's range).
-/
namespace Sys2Proof

/-- One byte of the host link (R169). -/
abbrev Byte := BitVec 8

/-- The 32-bit configuration tag that CONFIG_SAVE sets (R176, R185). -/
abbrev Tag32 := BitVec 32

/-- Smallest and largest value of a signed 32-bit field (00_scope, "Numbers and units"). -/
def int32Min : Int := -2147483648
/-- See `int32Min`. -/
def int32Max : Int := 2147483647

end Sys2Proof
end

