-- ==== Sys2Proof/Syntax.lean ====
section
/-!
DEFINITION. The vocabulary of the 4C24's requests and events, and the commands themselves: one constructor of `Instr`
for each row of spec/opcode_table.json. The byte layout of most request bodies is not given by the spec (10.8 gives four
layouts), so a request carries its fields as data, beside a `BodyForm` that says whether the body had the length its kind
demands and whether each code field (mode, kind, role, action, quality ...) held a code that its chapter defines.
Times `t` are readings of the 1 MHz capture clock, in µs (R21).
-/
namespace Sys2Proof

/-! ### Signals (01) -/

/-- The four qualities of a signal record (1.1). -/
inductive Quality where
  | failed | valid | held | substitute
  deriving DecidableEq, Repr, Inhabited

/-- The four sticky flags (1.1, R9), and any set of them. -/
structure SigFlags where
  overLimit : Bool := false
  underLimit : Bool := false
  lost : Bool := false
  implausible : Bool := false
  deriving DecidableEq, Repr, Inhabited

/-- Configuration of a signal record (R7). -/
structure SigCfg where
  rangeMin : Int
  rangeMax : Int
  holdLimit : Nat
  substitute : Option Int
  refreshLimit : Nat
  reportOnFlag : Bool
  deriving DecidableEq, Repr, Inhabited

/-- The two qualities a SIGNAL_PUT may carry (R10). -/
inductive PutQuality where
  | valid | failed
  deriving DecidableEq, Repr, Inhabited

/-! ### Pulse inputs (02) -/

/-- Which qualified edges are counted (R22). -/
inductive EdgeMode where
  | riseToRise | fallToFall | everyEdge
  deriving DecidableEq, Repr, Inhabited

/-- Configuration of a pulse channel (2.1). Times: `width` in µs, `window` and `timeout` in ms. -/
structure PulseCfg where
  enable : Bool
  edge : EdgeMode
  width : Nat
  window : Nat
  timeout : Nat
  scaleM : Nat
  scaleD : Nat
  threshold : Nat
  deriving DecidableEq, Repr, Inhabited

/-- What the sense path finds of a rest level (R31): within the bias band, above it, or below it. -/
inductive Band where
  | within | above | below
  deriving DecidableEq, Repr, Inhabited

/-! ### Senders, switches, outputs (03) -/

/-- Configuration of a sender channel (3.1). -/
structure SenderCfg where
  enable : Bool
  curve : List (Nat × Int)
  shift : Nat
  openAt : Nat
  shortAt : Nat
  confirm : Nat
  recovery : Nat
  deriving DecidableEq, Repr, Inhabited

/-- How a switch input is read (3.3). -/
inductive SwitchKind where
  | plain | coded
  deriving DecidableEq, Repr, Inhabited

/-- Polarity of a switch input (3.3). -/
inductive Polarity where
  | normal | inverted
  deriving DecidableEq, Repr, Inhabited

/-- Role of a switch input (3.3). -/
inductive Role where
  | none | ack | parkingBrake | override | stopReq | assistReq
  deriving DecidableEq, Repr, Inhabited

/-- Configuration of a switch input (3.3). -/
structure SwitchCfg where
  kind : SwitchKind
  polarity : Polarity
  shortLimit : Nat
  split : Nat
  openLimit : Nat
  debounce : Nat
  confirm : Nat
  recovery : Nat
  role : Role
  deriving DecidableEq, Repr, Inhabited

/-- Owner of an output (3.5). -/
inductive Owner where
  | none | telltale (t : Nat) | interlock | release | stopSign
  deriving DecidableEq, Repr, Inhabited

/-- What an output's sense path reads (R57). -/
inductive LineReading where
  | loaded | opened | energized
  deriving DecidableEq, Repr, Inhabited

/-! ### Gauges (05) -/

/-- Configuration of a gauge (5.1); `source` is a signal number or none. -/
structure GaugeCfg where
  source : Option Nat
  pmax : Nat
  curve : List (Int × Nat)
  vmax : Nat
  deadband : Nat
  failPos : Nat
  sweep : Bool
  park : Bool
  deriving DecidableEq, Repr, Inhabited

/-! ### Warnings (06) -/

/-- Severity of a warning, most severe first (6.1). -/
inductive Severity where
  | stop | caution | info
  deriving DecidableEq, Repr, Inhabited

/-- How terms make the condition (6.1). -/
inductive Combine where
  | all | any
  deriving DecidableEq, Repr, Inhabited

/-- Operators of a COMPARE term (R99). -/
inductive CmpOp where
  | gt | ge | lt | le | eq | ne
  deriving DecidableEq, Repr, Inhabited

/-- Bad-quality policy of a COMPARE term (R99). -/
inductive Policy where
  | beTrue | beFalse | last
  deriving DecidableEq, Repr, Inhabited

/-- Test of a QUALITY term (R100). -/
inductive QualityTest where
  | notValid | failed
  deriving DecidableEq, Repr, Inhabited

/-- One term of a warning (6.3). -/
inductive Term where
  | compare (signal : Nat) (op : CmpOp) (c h : Int) (policy : Policy)
  | quality (signal : Nat) (test : QualityTest)
  | flagged (signal : Nat) (flags : SigFlags)
  | warning (w : Nat)
  deriving DecidableEq, Repr, Inhabited

/-- Lamp patterns, least urgent first (R113). -/
inductive Pattern where
  | off | steady | slow | fast
  deriving DecidableEq, Repr, Inhabited

/-- Modes of a chime request (7.3). -/
inductive ChimeMode where
  | once | untilAck | whileActive | endless
  deriving DecidableEq, Repr, Inhabited

/-- Configuration of a warning (6.1). -/
structure WarningCfg where
  enable : Bool
  severity : Severity
  combine : Combine
  terms : List Term
  onDelay : Nat
  offDelay : Nat
  latching : Bool
  reminder : Nat
  telltale : Option Nat
  unackPattern : Pattern
  ackPattern : Pattern
  chime : Option (Nat × ChimeMode)
  suppressor : Option Nat
  log : Bool
  deriving DecidableEq, Repr, Inhabited

/-! ### Chime (07) -/

/-- Which carrier a mark uses (7.1). -/
inductive CarrierMode where
  | single | alternate
  deriving DecidableEq, Repr, Inhabited

/-- A carrier: high and low counts of 4 µs tone ticks (7.1). -/
structure Carrier where
  high : Nat
  low : Nat
  deriving DecidableEq, Repr, Inhabited

/-- A chime pattern record (7.1); `mark`, `space` and `gap` in units of 10 ms. -/
structure ChimePattern where
  carrierA : Carrier
  carrierB : Option Carrier
  mode : CarrierMode
  mark : Nat
  space : Nat
  groupSize : Nat
  gap : Nat
  repeats : Nat
  priority : Nat
  deriving DecidableEq, Repr, Inhabited

/-- Who asks for a chime (7.3). -/
inductive Requester where
  | warning (w : Nat) | stopLatch | host
  deriving DecidableEq, Repr, Inhabited

/-- What the tone output's sense path reads (R131). -/
inductive ToneReading where
  | loaded | opened | shorted
  deriving DecidableEq, Repr, Inhabited

/-! ### Doors (08) -/

/-- Configuration of a door (8.1); inputs are switch numbers or none, `travel` in seconds. -/
structure DoorCfg where
  fitted : Bool
  closed : Option Nat
  locked : Option Nat
  openSw : Option Nat
  edge : Option Nat
  emergency : Option Nat
  travel : Nat
  deriving DecidableEq, Repr, Inhabited

/-- The release policy (R142): speeds in 0.01 km/h, delay in ms. -/
structure DoorPolicy where
  speed : Int
  hysteresis : Int
  delay : Int
  deriving DecidableEq, Repr, Inhabited

/-! ### Workshop, link and power (09 to 11) -/

/-- Trip counters (R69). -/
inductive Trip where
  | a | b
  deriving DecidableEq, Repr, Inhabited

/-- Scope of FAULT_CLEAR (R162). -/
inductive ClearScope where
  | all | code (c : Nat)
  deriving DecidableEq, Repr, Inhabited

/-- Line rates in the order of their codes 0 to 3 (R168). -/
inductive Rate where
  | r57600 | r115200 | r230400 | r460800
  deriving DecidableEq, Repr, Inhabited

/-- What the owner finds of a request's body (R171): has it the length its kind demands, and does every code field hold
a code the owning chapter defines. -/
structure BodyForm where
  lengthOk : Bool
  codesOk : Bool
  deriving DecidableEq, Repr, Inhabited

/-- The commands: one constructor for each row of spec/opcode_table.json, in the table's order. Requests take their place
in the request buffer by `receivedFrame` and act when they stand IN_HAND (R171); events carry what the pins or the sense
paths show. -/
inductive Instr where
  | partStart (fellThroughOff : Bool) (t : Nat)
  | brownOut
  | ignitionChange (on : Bool) (t : Nat)
  | ignitionFilterExpiry (t : Nat)
  | afterrunTimerExpiry
  | storeWriteComplete
  | receivedFrame (bytes : List Byte) (t : Nat)
  | frameGapTimeout
  | transmitStart
  | frameSent
  | resetRestart
  | unknownKind
  | identify
  | status
  | reportSet (b : BodyForm) (marks : BitVec 16)
  | reset
  | configSave (b : BodyForm) (tag : Tag32)
  | configDefaults
  | linkRate (b : BodyForm) (code : Nat)
  | signalRead
  | signalPut (b : BodyForm) (signal : Nat) (value : Int) (quality : PutQuality)
  | signalConfig (b : BodyForm) (signal : Nat) (cfg : SigCfg)
  | signalClearFlags (b : BodyForm) (signal : Option Nat) (flags : SigFlags)
  | signalForce (b : BodyForm) (signal : Nat) (value : Int)
  | signalRelease (b : BodyForm) (signal : Nat)
  | signalAgeTick
  | holdExpiry (signal : Fin 64)
  | refreshExpiry (slot : Fin 12)
  | pulseConfig (b : BodyForm) (channel : Nat) (cfg : PulseCfg)
  | pulseLogRead (b : BodyForm) (channel : Nat)
  | repeaterConfig (b : BodyForm) (kOut : Nat)
  | pulseTransition (channel : Fin 4) (high : Bool) (t : Nat)
  | qualificationExpiry (channel : Fin 4)
  | windowExpiry (channel : Fin 4) (t : Nat)
  | biasCheckExpiry (channel : Fin 4) (band : Band) (t : Nat)
  | repeaterTarget
  | repeaterHalfCycleEnd
  | senderConfig (b : BodyForm) (channel : Nat) (cfg : SenderCfg)
  | senderSampleExpiry (channel : Fin 12) (raw : Nat) (t : Nat)
  | switchConfig (b : BodyForm) (input : Nat) (cfg : SwitchCfg)
  | switchSampleExpiry (input : Fin 24) (high : Bool) (raw : Nat) (t : Nat)
  | switchRefreshExpiry (input : Fin 24)
  | supplyMeasure (mV : Nat) (t : Nat)
  | underVoltageReportExpiry
  | outputConfig (b : BodyForm) (output : Nat) (owner : Owner)
  | outputRead
  | outputForce (b : BodyForm) (output : Nat) (on : Bool)
  | outputForceRelease (b : BodyForm) (output : Nat)
  | outputOvercurrent (output : Fin 16)
  | outputSenseExpiry (output : Fin 16) (reading : LineReading) (t : Nat)
  | outputRetryExpiry (output : Fin 16)
  | outputProvingExpiry (output : Fin 16)
  | outputServiceChange (on : Bool)
  | distanceHandoff (n : Nat)
  | distanceRead
  | tripReset (b : BodyForm) (trip : Trip)
  | odometerSet (b : BodyForm) (tenths : Nat)
  | serviceIntervalSet (b : BodyForm) (km : Int)
  | serviceDistanceRefresh
  | hoursTick
  | hoursTenth
  | gaugeConfig (b : BodyForm) (gauge : Nat) (cfg : GaugeCfg)
  | gaugeRead
  | gaugeTestSet (b : BodyForm) (gauge : Nat) (position : Nat)
  | gaugeTestEnd (b : BodyForm) (gauge : Nat)
  | gaugeRehome (b : BodyForm) (gauge : Nat)
  | targetUpdateExpiry (gauge : Fin 6)
  | motionExpiry (gauge : Fin 6) (coilOpen : Bool)
  | homingComplete (gauge : Fin 6)
  | gaugeFreezeExpiry (gauge : Fin 6)
  | gaugeServiceChange (on : Bool)
  | warningConfig (b : BodyForm) (w : Nat) (cfg : WarningCfg)
  | warningRead (b : BodyForm) (w : Nat)
  | warningAckHead (b : BodyForm)
  | warningAckIndex (b : BodyForm) (w : Nat)
  | warningAckAll (b : BodyForm)
  | ackEdge
  | telltaleRead
  | lampTest
  | attentionRead
  | warningScan
  | onDelayEnd (w : Fin 32)
  | offDelayEnd (w : Fin 32)
  | reminderDue (w : Fin 32)
  | blinkClockExpiry
  | proveOutExpiry
  | chimePatternSet (b : BodyForm) (index : Nat) (pattern : ChimePattern)
  | chimePlay (b : BodyForm) (index : Nat) (mode : ChimeMode)
  | chimeStop
  | chimeVolume (b : BodyForm) (volume : Nat)
  | chimeRequest (who : Requester) (pattern : Nat) (mode : ChimeMode)
  | chimeWithdrawal (who : Requester)
  | markExpiry
  | spaceExpiry
  | gapExpiry
  | tailExpiry
  | toneSenseExpiry (reading : ToneReading)
  | doorConfig (b : BodyForm) (target : Nat) (cfg : DoorCfg)
  | doorConfigStopLatch (b : BodyForm) (stop assist : Option Nat)
  | doorRead
  | stopRequestClear
  | doorPolicy (b : BodyForm) (policy : DoorPolicy)
  | doorInputWrite (door : Fin 4)
  | doorImplausibilityExpiry (door : Fin 4) (t : Nat)
  | doorTravelExpiry (door : Fin 4) (t : Nat)
  | doorWiringFault (door : Fin 4)
  | doorRefreshExpiry
  | releaseRedecide
  | securedRunComplete (t : Nat)
  | overrideChange
  | interlockOutputChange
  | stopRequestEdge (assist : Bool)
  | faultReportActive (code : Nat)
  | faultReportInactive (code : Nat)
  | faultNext
  | faultRewind
  | faultClear (b : BodyForm) (scope : ClearScope)
  | freezeListSet (b : BodyForm) (signals : List Nat)
  | faultConfig (b : BodyForm) (limit : Nat)
  | serviceEnter
  | serviceExit
  | serviceSpeedCheck (value : Int) (quality : Quality)
  | serviceBrakeChange (applied : Bool)
  | serviceSignalRefresh
  | badStopBit
  | toneTick
  deriving DecidableEq, Repr

end Sys2Proof
end

