-- ==== Sys2Proof/Decode.lean ====
section
/-!
DEFINITION. What a word spells. No row of spec/opcode_table.json gives bits (commands are events and framed requests, not
words), so no word spells a command.
-/
namespace Sys2Proof

/-- The command a word of `nbits` bits spells: none, since the table gives no row any bits. -/
def decodeTableWord (_nbits _w : Nat) : Option Instr := none

end Sys2Proof
end

