-- ==== Sys2Proof/Config.lean ====
section
/-!
DEFINITION. What an implementation fixes and the spec leaves open. One value: the silicon revision letter that IDENTIFY
returns "as one capital letter in ASCII" (R176) without saying which. It has no body, so nothing can be proved of it
beyond the bound of its type (DESIGN CHOICE, log 7).
-/
namespace Sys2Proof.Config

/-- Place in the alphabet of the silicon revision letter, a free value (R176). -/
opaque revisionLetter : Fin 26

end Sys2Proof.Config
end

