-- ==== Sys2Proof/Machine/Arith.lean ====
section
/-!
DEFINITION. Arithmetic of the conventions in 00_scope ("Rounding and division", "Ranges"), decimal digit counters (04),
interpolation (R41, R79), the link's check (R169), byte order (00_scope, "Byte order"), and tables of fixed size.
-/
namespace Sys2Proof.Machine

/-- `round(a / b)` for `b > 0`: to the nearest integer, halves away from zero (00_scope, "Rounding and division"). -/
def roundDiv (a b : Int) : Int :=
  if 0 ≤ a then (2 * a + b) / (2 * b) else -((2 * (-a) + b) / (2 * b))

/-- `⌈n / d⌉`. -/
def ceilDiv (n d : Nat) : Nat := (n + d - 1) / d

/-- `v` moved to the nearer end of `lo … hi`. -/
def clampInt (lo hi v : Int) : Int := if v < lo then lo else if hi < v then hi else v

/-- `v` moved to the nearer end of `lo … hi`. -/
def clampNat (lo hi v : Nat) : Nat := if v < lo then lo else if hi < v then hi else v

/-- Saturating increment. -/
def satSucc (max n : Nat) : Nat := if n < max then n + 1 else n

/-- Largest 32-bit count (ignition cycle count, door cycles, sequence numbers). -/
def nat32Max : Nat := 4294967295

/-! ### Tables of fixed size -/

/-- Entry `i` of a table; the default entry outside it (an index every rule refuses before it is used). -/
def tget {α : Type} {n : Nat} [Inhabited α] (v : Vector α n) (i : Nat) : α := v[i]?.getD default

/-- The table with entry `i` replaced; unchanged when `i` is outside it. -/
def tset {α : Type} {n : Nat} (v : Vector α n) (i : Nat) (x : α) : Vector α n := v.setIfInBounds i x

/-- The table with `f` applied to every entry. -/
def tmap {α β : Type} {n : Nat} (f : α → β) (v : Vector α n) : Vector β n :=
  ⟨⟨v.toList.map f⟩, by simp⟩

/-- The table with `f` applied to each entry and its index, from `k` on. -/
def mapFrom {α β : Type} (f : Nat → α → β) : Nat → List α → List β
  | _, [] => []
  | k, x :: xs => f k x :: mapFrom f (k + 1) xs

/-- `mapFrom` keeps the length. -/
theorem mapFrom_length {α β : Type} (f : Nat → α → β) (k : Nat) (xs : List α) :
    (mapFrom f k xs).length = xs.length := by
  induction xs generalizing k with
  | nil => rfl
  | cons x xs ih => simp [mapFrom, ih]

/-- The table with `f` applied to each index and entry. -/
def timap {α β : Type} {n : Nat} (f : Nat → α → β) (v : Vector α n) : Vector β n :=
  ⟨⟨mapFrom f 0 v.toList⟩, by simp [mapFrom_length]⟩

/-- A step repeated for the indices `0 … n − 1` in order. -/
def forEach {σ : Type} (n : Nat) (f : Nat → σ → σ) (s : σ) : σ :=
  (List.range n).foldl (fun acc i => f i acc) s

/-! ### Decimal digit counters (04), least significant digit first -/

/-- One tenth more, with decimal carry leftward; all nines wrap to zeros (R64). -/
def digitsInc : List Nat → List Nat
  | [] => []
  | d :: ds => if d < 9 then (d + 1) :: ds else 0 :: digitsInc ds

/-- The digits read as a decimal integer (4.1). -/
def digitsVal : List Nat → Nat
  | [] => 0
  | d :: ds => d + 10 * digitsVal ds

/-- The `w` lowest decimal digits of a number. -/
def digitsOf : Nat → Nat → List Nat
  | 0, _ => []
  | w + 1, v => v % 10 :: digitsOf w (v / 10)

/-- All digits are nine. -/
def allNines (ds : List Nat) : Bool := ds.all (· == 9)

/-! ### Curves -/

/-- Interpolation from point `p` on (R41, R79): below the next point, on the segment that begins at `p`. -/
def interpFrom (p : Int × Int) : List (Int × Int) → Int → Int
  | [], _ => p.2
  | q :: rest, x =>
    if x < q.1 then p.2 + roundDiv ((x - p.1) * (q.2 - p.2)) (q.1 - p.1) else interpFrom q rest x

/-- A curve at `x`: the first point's value below it, the last point's value above it (R41, R79). -/
def interp (curve : List (Int × Int)) (x : Int) : Int :=
  match curve with
  | [] => 0
  | p :: rest => if x < p.1 then p.2 else interpFrom p rest x

/-- The first coordinates rise strictly from point to point (R39, R77). -/
def strictlyRising : List Int → Bool
  | a :: b :: rest => decide (a < b) && strictlyRising (b :: rest)
  | _ => true

/-! ### Bytes -/

/-- One bit shifted out of the link's CRC register, polynomial 0x31 (R169). -/
def crcBit (c : Byte) : Byte :=
  if c.getLsbD 7 then (c <<< 1) ^^^ 0x31#8 else c <<< 1

/-- One byte taken into the CRC register. -/
def crcByte (c b : Byte) : Byte :=
  crcBit (crcBit (crcBit (crcBit (crcBit (crcBit (crcBit (crcBit (c ^^^ b))))))))

/-- The check of R169: CRC-8, polynomial 0x31, initial value 0xFF, no reflection, no final inversion. -/
def crc8 (bytes : List Byte) : Byte := bytes.foldl crcByte 0xFF#8

/-- The `k` bytes of a field, least significant byte first; negative values in two's complement (10.8). -/
def leBytes : Nat → Int → List Byte
  | 0, _ => []
  | k + 1, v => BitVec.ofInt 8 v :: leBytes k (v / 256)

end Sys2Proof.Machine
end

