-- ==== Sys2Proof/Machine/Factory.lean ====
section
/-!
DEFINITION. The factory configuration, block by block: the tables of each chapter and the summary in 11.4 (R186).
-/
namespace Sys2Proof.Machine

/-- Range of record `i` in the factory configuration (R7) and of the internal signals, whose range is fixed (R15). -/
def factoryRange (i : Nat) : Int × Int :=
  if i < 12 then (0, 4095)
  else if i = 12 then (0, 30000)
  else if i = 13 then (0, 10000)
  else if i < 16 then (0, 2147483647)
  else if i < 40 then (0, 1)
  else if i < 44 then (0, 8)
  else if i = 44 then (0, 4)
  else if i = 45 then (0, 1)
  else if i = 46 then (0, 1)
  else if i = 47 then (0, 2)
  else if i = 48 then (0, 40000)
  else if i = 49 then (-9999, 65535)
  else if i < 52 then (0, 1)
  else (int32Min, int32Max)

/-- The internal signals, records 40 to 51 (R15). -/
def isInternal (i : Nat) : Bool := decide (40 ≤ i) && decide (i < 52)

/-- Factory configuration of record `i` (R7, R15): hold limit 1000 ms, 0 for internal signals; no substitute. -/
def factorySig (i : Nat) : SigCfg :=
  { rangeMin := (factoryRange i).1, rangeMax := (factoryRange i).2,
    holdLimit := if isInternal i then 0 else 1000,
    substitute := none, refreshLimit := 0, reportOnFlag := false }

/-- Factory configuration of pulse channel `i` (2.1, 11.4). -/
def factoryPulse (i : Nat) : PulseCfg :=
  { enable := true, edge := .riseToRise, width := 0, window := 20, timeout := 1000,
    scaleM := if i = 0 then 360 else if i = 1 then 60 else 1,
    scaleD := if i = 0 then 6400 else 1000, threshold := 350 }

/-- Factory repeater constant (R35). -/
def factoryKOut : Nat := 4000

/-- Factory configuration of a sender channel (3.1). -/
def factorySender : SenderCfg :=
  { enable := false, curve := [(0, 0), (4095, 4095)], shift := 0, openAt := 4000, shortAt := 60,
    confirm := 1000, recovery := 2000 }

/-- Factory configuration of a switch input (3.3). -/
def factorySwitch : SwitchCfg :=
  { kind := .plain, polarity := .normal, shortLimit := 60, split := 2048, openLimit := 4000,
    debounce := 20, confirm := 1000, recovery := 2000, role := .none }

/-- Factory configuration of a gauge (5.1). -/
def factoryGauge : GaugeCfg :=
  { source := none, pmax := 3240, curve := [(0, 0), (3240, 3240)], vmax := 8, deadband := 0,
    failPos := 0, sweep := false, park := true }

/-- Factory configuration of a warning: disabled (6.1). The other items of a disabled warning have no effect, and the
spec gives none (DESIGN CHOICE, log 4). -/
def factoryWarning : WarningCfg :=
  { enable := false, severity := .info, combine := .all, terms := [], onDelay := 0, offDelay := 0,
    latching := false, reminder := 0, telltale := none, unackPattern := .off, ackPattern := .off,
    chime := none, suppressor := none, log := false }

/-- Factory chime pattern: carrier counts 0, hence unplayable (7.1). -/
def factoryPattern : ChimePattern :=
  { carrierA := ⟨0, 0⟩, carrierB := none, mode := .single, mark := 1, space := 0, groupSize := 1,
    gap := 0, repeats := 1, priority := 0 }

/-- Factory chime volume (R120). -/
def factoryVolume : Nat := 2

/-- Factory configuration of a door: not fitted, travel limit 6 s (8.1). -/
def factoryDoor : DoorCfg :=
  { fitted := false, closed := none, locked := none, openSw := none, edge := none, emergency := none,
    travel := 6 }

/-- Factory release policy (R142). -/
def factoryPolicy : DoorPolicy := { speed := 300, hysteresis := 200, delay := 500 }

/-- Factory healing limit (R160). -/
def factoryHealLimit : Nat := 40

/-- Factory line rate (R168). -/
def factoryRate : Rate := .r115200

end Sys2Proof.Machine
end

