-- ==== Sys2Proof/Machine/Types.lean ====
section
/-!
DEFINITION. The state of each block of the 4C24, as the context tables of the chapters give it. Start times are readings
of the capture clock in µs; timers that the spec only starts, stops and lets expire are a running mark.
-/
namespace Sys2Proof.Machine

/-- A timer of the signal table, counted in ms by its 1 ms expiry (R6). -/
structure Timer where
  running : Bool
  elapsed : Nat
  deriving DecidableEq, Repr, Inhabited

/-- A stopped timer. -/
def Timer.stopped : Timer := ⟨false, 0⟩

/-! ### Signal table (01) -/

/-- One signal record (1.1). -/
structure SigRec where
  cfg : SigCfg
  value : Int
  quality : Quality
  age : Nat
  flags : SigFlags
  forced : Bool
  hold : Timer
  refresh : Timer
  deriving DecidableEq, Repr, Inhabited

/-! ### Wiring judgement shared by senders, coded switches and pulse inputs (R31, R43, R49) -/

/-- Wiring judgement. -/
inductive Judgement where
  | clean | suspectOpen | suspectShort | faultOpen | faultShort
  deriving DecidableEq, Repr, Inhabited

/-- Judgement with the start of the running suspicion (or confirm time) and of the running recovery. -/
structure Wiring where
  judgement : Judgement
  suspicion : Option Nat
  recovery : Option Nat
  deriving DecidableEq, Repr, Inhabited

/-- No suspicion, no fault. -/
def Wiring.clean : Wiring := ⟨.clean, none, none⟩

/-! ### Pulse capture unit (02) -/

/-- Channel context (2.1). `pin` is the input level; `windowTimer` the length in ms the running window was started with. -/
structure PulseChan where
  cfg : PulseCfg
  pin : Bool
  settled : Bool
  qual : Option Nat
  reference : Option Nat
  n : Nat
  t : Nat
  saturated : Bool
  fPrev : Nat
  log : List Nat
  logOverrun : Bool
  abortHold : Bool
  wiring : Wiring
  windowTimer : Option Nat
  biasOn : Bool
  deriving DecidableEq, Repr, Inhabited

/-- The speed repeater (2.8): target in mHz or "low", level of REP, length in µs of the half-cycle in progress. -/
structure Repeater where
  kOut : Nat
  target : Option Nat
  high : Bool
  half : Option Nat
  deriving DecidableEq, Repr, Inhabited

/-! ### Senders, switches, supply, outputs (03) -/

/-- Sender context (3.1): `filter` is F in 1/256 of the signal's unit, or empty. -/
structure Sender where
  cfg : SenderCfg
  filter : Option Int
  wiring : Wiring
  sampleOn : Bool
  deriving DecidableEq, Repr, Inhabited

/-- Switch context (3.3). -/
structure SwitchIn where
  cfg : SwitchCfg
  debounced : Option Bool
  candidate : Option (Bool × Nat)
  wiring : Wiring
  sampleOn : Bool
  refreshOn : Bool
  deriving DecidableEq, Repr, Inhabited

/-- Supply monitor (3.4): conditions, run starts, report timer, whether UNDER_VOLTAGE stands reported. -/
structure Supply where
  underLimit : Bool
  overLimit : Bool
  lowRun : Option Nat
  highRun : Option Nat
  reportOn : Bool
  reported : Bool
  measureOn : Bool
  deriving DecidableEq, Repr, Inhabited

/-- Driver states of an output (3.5). -/
inductive OutState where
  | off | on | shortWait | openLoad | supplyShort | lockedOut
  deriving DecidableEq, Repr, Inhabited

/-- Output context (3.5). -/
structure Output where
  owner : Owner
  request : Bool
  force : Option Bool
  state : OutState
  shortCount : Nat
  shortProven : Bool
  cut : Bool
  openRun : Option Nat
  loadRun : Option Nat
  energizedRun : Option Nat
  followRun : Option Nat
  retryOn : Bool
  provingOn : Bool
  senseOn : Bool
  deriving DecidableEq, Repr, Inhabited

/-- The sixteen outputs and the service mode as the output drivers last took it (R167). -/
structure OutputBank where
  outs : Vector Output 16
  service : Bool
  deriving DecidableEq, Repr, Inhabited

/-! ### Distance counters (04) -/

/-- The counter record's own items (4.1); digits least significant first. -/
structure Counters where
  total : List Nat
  totalValid : Bool
  odoFull : Bool
  tripA : List Nat
  tripB : List Nat
  hours : List Nat
  service : Int
  serviceValid : Bool
  deriving DecidableEq, Repr, Inhabited

/-- The counter record and the working quantities (4.1). -/
structure DistanceUnit where
  record : Counters
  r : Nat
  sub : Nat
  gate : Bool
  refreshOn : Bool
  deriving DecidableEq, Repr, Inhabited

/-! ### Gauges (05) -/

/-- Gauge states (5.3). -/
inductive GaugeState where
  | unhomed | homing | sweep | tracking | test | parking | parked | fault
  deriving DecidableEq, Repr, Inhabited

/-- A tracked target and its fail mark (R79). -/
structure Target where
  pos : Nat
  fail : Bool
  deriving DecidableEq, Repr, Inhabited

/-- Under-voltage freeze (R88): was the gauge moving, does the freeze timer still run. -/
structure Freeze where
  moving : Bool
  timerOn : Bool
  deriving DecidableEq, Repr, Inhabited

/-- Gauge working state and configuration (5.1 to 5.8). `up` is the direction while `s > 0`; `sweepBack` says the sweep
has turned; `coilReported` that COIL_OPEN is reported and not yet reported inactive (R83); `parks` is the park flag as
the latest AFTERRUN entry found it (R78). -/
structure Gauge where
  cfg : GaugeCfg
  state : GaugeState
  p : Nat
  s : Nat
  up : Bool
  sweepBack : Bool
  tracked : Option Target
  testPos : Option Nat
  overrun : Nat
  freeze : Option Freeze
  coilReported : Bool
  parks : Bool
  motionOn : Bool
  updateOn : Bool
  deriving DecidableEq, Repr, Inhabited

/-- The six gauges and the service mode as the gauge drivers last took it (R167). -/
structure GaugeBank where
  gauges : Vector Gauge 6
  service : Bool
  deriving DecidableEq, Repr, Inhabited

/-! ### Warnings (06) -/

/-- Warning states (6.5). -/
inductive WState where
  | inactive | onDelay | active | offDelay | latched
  deriving DecidableEq, Repr, Inhabited

/-- A warning's configuration and working state (6.1). -/
structure Warning where
  cfg : WarningCfg
  state : WState
  acked : Bool
  results : List Bool
  condition : Bool
  suppressed : Bool
  delay : Option Nat
  reminder : Option Nat
  configChain : Bool
  deriving DecidableEq, Repr, Inhabited

/-- Merged and shown pattern of a telltale (R113). -/
structure Telltale where
  merged : Pattern
  shown : Pattern
  deriving DecidableEq, Repr, Inhabited

/-- The warning unit (6.1): `proveOut` holds the start time of a running prove-out. -/
structure WarnUnit where
  warnings : Vector Warning 32
  activation : List Nat
  attention : List Nat
  telltales : Vector Telltale 32
  blink : Nat
  blinkOn : Bool
  scanOn : Bool
  proveOut : Option Nat
  deriving DecidableEq, Repr, Inhabited

/-! ### Chime generator (07) -/

/-- A pending request (7.3). -/
structure ChimeReq where
  who : Requester
  pattern : Nat
  mode : ChimeMode
  arrival : Nat
  deriving DecidableEq, Repr, Inhabited

/-- The sounding request with its marks (R127, R128). -/
structure Sounding where
  who : Requester
  pattern : Nat
  mode : ChimeMode
  replaced : Bool
  reconfigured : Bool
  deriving DecidableEq, Repr, Inhabited

/-- Generator states (7.4). -/
inductive PlayState where
  | idle | mark | space | gap | tail
  deriving DecidableEq, Repr, Inhabited

/-- Symptoms of a tone fault (R131). -/
inductive ToneFault where
  | opened | shorted
  deriving DecidableEq, Repr, Inhabited

/-- The chime generator (7.1 to 7.6). `phase` is the running phase timer's length in units of 10 ms; `level` is the half
of the carrier cycle (high or low), `ticks` the tone ticks left of that half (R120) and `drive` the volume in force in this
cycle; run times are ms of mark time. -/
structure Chime where
  patterns : Vector ChimePattern 8
  volume : Nat
  requests : List ChimeReq
  nextArrival : Nat
  state : PlayState
  sounding : Option Sounding
  group : Nat
  markCount : Nat
  carrier : Carrier
  phase : Option Nat
  tailPriority : Nat
  level : Bool
  ticks : Nat
  drive : Nat
  badRun : Option (ToneFault × Nat)
  fault : Option ToneFault
  goodRun : Option Nat
  deriving DecidableEq, Repr, Inhabited

/-! ### Door supervisor (08) -/

/-- A door record (8.1). Timers hold their start time while they run. -/
structure Door where
  cfg : DoorCfg
  code : Nat
  travel : Option Nat
  implausTimer : Option Nat
  stuck : Bool
  implausible : Bool
  opened : Bool
  cycles : Nat
  sinceCommit : Nat
  deriving DecidableEq, Repr, Inhabited

/-- The secured run (R145). -/
inductive SecuredRun where
  | stopped | running (start : Nat) | complete
  deriving DecidableEq, Repr, Inhabited

/-- What the permission rests on (R143, R151). -/
inductive Basis where
  | speed | brake
  deriving DecidableEq, Repr, Inhabited

/-- The stop request record (R148). -/
inductive StopRecord where
  | none | stop | assist
  deriving DecidableEq, Repr, Inhabited

/-- The door supervisor (8.1 to 8.7). -/
structure DoorUnit where
  doors : Vector Door 4
  policy : DoorPolicy
  permission : Bool
  basis : Basis
  interlock : Bool
  run : SecuredRun
  overrideRead : Bool
  interlockFault : Bool
  stop : StopRecord
  stopPattern : Option Nat
  assistPattern : Option Nat
  refreshOn : Bool
  deriving DecidableEq, Repr, Inhabited

/-! ### Fault memory (09) -/

/-- One captured signal of a freeze frame (R158). -/
structure FreezeEntry where
  signal : Nat
  value : Int
  quality : Quality
  deriving DecidableEq, Repr, Inhabited

/-- A fault record (9.2). -/
structure FaultRec where
  code : Nat
  active : Bool
  occurrences : Nat
  seq : Nat
  firstTotal : Nat
  firstHours : Nat
  lastTotal : Nat
  lastHours : Nat
  firstCycle : Nat
  healing : Nat
  freeze : Option (List FreezeEntry)
  deriving DecidableEq, Repr, Inhabited

/-- The fault memory and the service mode (9). -/
structure FaultMem where
  records : List FaultRec
  counter : Nat
  full : Bool
  cursor : Nat
  freezeList : List Nat
  healLimit : Nat
  service : Bool
  refreshOn : Bool
  deriving DecidableEq, Repr, Inhabited

/-! ### The store (11.3) -/

/-- The configuration image: the stored form of every block's configuration, with the tag (11.4). -/
structure ConfigImage where
  signals : Vector SigCfg 64
  pulse : Vector PulseCfg 4
  kOut : Nat
  senders : Vector SenderCfg 12
  switches : Vector SwitchCfg 24
  owners : Vector Owner 16
  gauges : Vector GaugeCfg 6
  warnings : Vector WarningCfg 32
  patterns : Vector ChimePattern 8
  volume : Nat
  doors : Vector DoorCfg 4
  policy : DoorPolicy
  stopPattern : Option Nat
  assistPattern : Option Nat
  freezeList : List Nat
  healLimit : Nat
  rate : Rate
  tag : Tag32
  deriving DecidableEq, Repr, Inhabited

/-- The counter record as stored: with the ignition cycle count (R73). -/
structure CounterImage where
  record : Counters
  cycles : Nat
  deriving DecidableEq, Repr, Inhabited

/-- The fault memory item: the records, the sequence counter and MEMORY_FULL. -/
structure FaultImage where
  records : List FaultRec
  counter : Nat
  full : Bool
  deriving DecidableEq, Repr, Inhabited

/-- The four items of the store (11.3), as names in the commit list. -/
inductive Item where
  | config | counters | doorCounts | faults
  deriving DecidableEq, Repr, Inhabited

/-- What a write in flight stores: the item as it stood when the write began (R183). -/
inductive WriteData where
  | config (image : ConfigImage)
  | counters (image : CounterImage)
  | doorCounts (counts : Vector Nat 4)
  | faults (image : FaultImage)
  deriving DecidableEq, Repr

/-- A write in flight, with the time it takes in ms (R183). -/
structure Write where
  data : WriteData
  ms : Nat
  deriving DecidableEq, Repr

/-- The item a write stores. -/
def WriteData.item : WriteData → Item
  | .config _ => .config
  | .counters _ => .counters
  | .doorCounts _ => .doorCounts
  | .faults _ => .faults

/-- The nonvolatile store: four items, each with the standing of its check. -/
structure Store where
  config : ConfigImage
  configGood : Bool
  counters : CounterImage
  countersGood : Bool
  doorCounts : Vector Nat 4
  doorCountsGood : Bool
  faults : FaultImage
  faultsGood : Bool
  deriving DecidableEq, Repr, Inhabited

/-! ### Power (11) -/

/-- Power modes (11). -/
inductive Mode where
  | off | sleep | run | afterrun
  deriving DecidableEq, Repr, Inhabited

/-- Reset causes (R179). -/
inductive ResetCause where
  | powerOn | brownOut | request
  deriving DecidableEq, Repr, Inhabited

/-- The power and store block (11). `ignitionPin` is the line, `ignitionTaken` the level last taken; `saving` is the
CONFIG_SAVE awaiting its completion (slot, tag); `brownOut` says a trip of the comparator awaits the next start. -/
structure Power where
  mode : Mode
  ignitionPin : Bool
  ignitionTaken : Bool
  filterOn : Bool
  cycles : Nat
  afterrunOn : Bool
  parkingPending : Bool
  commit : List Item
  writing : Option Write
  configGood : Bool
  tag : Tag32
  saving : Option (Nat × Tag32)
  cause : ResetCause
  brownOut : Bool
  deriving DecidableEq, Repr, Inhabited

/-! ### Host link (10) -/

/-- Result codes (R171). -/
inductive Result where
  | ok | adjusted | unknownKind | badLength | range | refusedProtected | conditions | busy
  deriving DecidableEq, Repr, Inhabited

/-- Report kinds in the order of their codes 0x90 to 0x9B (10.5). -/
inductive ReportKind where
  | warningChange | telltaleChange | attentionChange | doorChange | stopRequestChange | signalFlags
  | faultChange | gaugeState | outputState | powerChange | serviceChange | reportsLost
  deriving DecidableEq, Repr, Inhabited

/-- Status a FAULT_CHANGE carries (R159). -/
inductive FaultStatus where
  | active | passive | erased | notStored
  deriving DecidableEq, Repr, Inhabited

/-- Bodies of reports, as the owning chapters name their fields. -/
inductive ReportBody where
  | warning (w : Nat) (state : WState) (acked configChain : Bool)
  | telltale (t : Nat) (shown merged : Pattern) (proveOut : Bool)
  | attention (head : Option (Nat × Severity)) (length : Nat)
  | door (d code cycles : Nat)
  | doorShared (permission interlock interlockFault : Bool)
  | stopRequest (value : StopRecord)
  | signalFlags (signal : Nat) (flags : SigFlags)
  | fault (code : Nat) (status : FaultStatus) (occurrences healing seq : Nat)
  | gauge (g : Nat) (state : GaugeState) (p : Nat)
  | output (o : Nat) (state : OutState) (command : Bool) (shortCount : Nat)
  | power (mode : Mode) (cycles : Nat)
  | service (on : Bool)
  | reportsLost (count : Nat)
  deriving DecidableEq, Repr, Inhabited

/-- An entry of the report queue (R173). -/
structure Report where
  kind : ReportKind
  subject : Nat
  body : ReportBody
  deriving DecidableEq, Repr, Inhabited

/-- Stages of a slot (10.3). -/
inductive Stage where
  | waiting | inHand | deferred | answered
  deriving DecidableEq, Repr, Inhabited

/-- A slot of the request buffer. `serial` is the model's name for the slot's occupation (log 2). -/
structure Slot where
  serial : Nat
  kind : Byte
  tag : Byte
  body : List Byte
  stage : Stage
  deriving DecidableEq, Repr, Inhabited

/-- What a sent reply frees (R170): its slot, or the oldest entry of the busy list. -/
inductive ReplySource where
  | slot (serial : Nat)
  | busy
  deriving DecidableEq, Repr, Inhabited

/-- Fields of a STATUS reply (R176). -/
structure StatusBody where
  mode : Mode
  service : Bool
  badFrame : Bool
  reportsLost : Bool
  lostCount : Nat
  writing : Bool
  configGood : Bool
  cycles : Nat
  cause : ResetCause
  deriving DecidableEq, Repr, Inhabited

/-- An OUTPUT_READ entry (R61). -/
structure OutputEntry where
  owner : Owner
  request : Bool
  force : Option Bool
  command : Bool
  state : OutState
  shortCount : Nat
  shortProven : Bool
  cut : Bool
  deriving DecidableEq, Repr, Inhabited

/-- A GAUGE_READ entry (R94). -/
structure GaugeEntry where
  state : GaugeState
  p : Nat
  s : Nat
  up : Bool
  motionTarget : Option Nat
  tracked : Option Target
  testPos : Option Nat
  overrun : Option Nat
  frozen : Bool
  deriving DecidableEq, Repr, Inhabited

/-- A DISTANCE_READ reply (R75). -/
structure DistanceBody where
  total : Nat
  totalValid : Bool
  odoFull : Bool
  tripA : Nat
  tripB : Nat
  hours : Nat
  sub : Nat
  gate : Bool
  service : Int
  serviceValid : Bool
  r : Nat
  k : Nat
  committing : Bool
  deriving DecidableEq, Repr, Inhabited

/-- The chime status block (R130). -/
structure ChimeStatus where
  state : PlayState
  sounding : Option (Requester × Nat)
  group : Nat
  markCount : Nat
  volume : Nat
  count : Nat
  entries : List (Requester × Nat × ChimeMode × Nat)
  deriving DecidableEq, Repr, Inhabited

/-- A door entry of DOOR_READ and of the DOOR_CONFIG reply (R151); elapsed times in ms. -/
structure DoorEntry where
  cfg : DoorCfg
  code : Nat
  stuck : Bool
  implausible : Bool
  opened : Bool
  travel : Option Nat
  implausTimer : Option Nat
  cycles : Nat
  sinceCommit : Nat
  deriving DecidableEq, Repr, Inhabited

/-- The secured run as DOOR_READ shows it: stopped, running with the time elapsed in ms, or complete. -/
inductive RunEntry where
  | stopped | running (ms : Nat) | complete
  deriving DecidableEq, Repr, Inhabited

/-- The shared state of DOOR_READ (R151). -/
structure DoorShared where
  policy : DoorPolicy
  permission : Bool
  basis : Basis
  interlock : Bool
  run : RunEntry
  override : Bool
  interlockFault : Bool
  stop : StopRecord
  stopPattern : Option Nat
  assistPattern : Option Nat
  committing : Bool
  deriving DecidableEq, Repr, Inhabited

/-- Bodies of replies after the result code. SIGNAL_READ and FAULT_NEXT are the bytes of 10.8; for the others the spec
names the fields and gives no layout. -/
inductive ReplyBody where
  | none
  | bytes (bs : List Byte)
  | identify (vendor family part : Nat) (revision : Byte) (tag : Tag32)
  | status (b : StatusBody)
  | enabled (marks : BitVec 16)
  | tag (t : Tag32)
  | pulse (cfg : PulseCfg)
  | pulseLog (channel : Nat) (overrun : Bool) (count : Nat) (log : List Nat)
  | sender (cfg : SenderCfg)
  | switch (cfg : SwitchCfg)
  | outputs (es : List OutputEntry)
  | distance (b : DistanceBody)
  | total (tenths : Nat) (valid : Bool)
  | serviceKm (km : Int)
  | gauge (cfg : GaugeCfg) (state : GaugeState)
  | gauges (es : List GaugeEntry)
  | warningCfg (cfg : WarningCfg)
  | warning (w : Warning) (position : Option Nat)
  | acknowledged (w : Option Nat)
  | ackCount (n : Nat)
  | telltales (ts : List Telltale) (proveOutMs : Nat) (blink : Nat)
  | attention (length : Nat) (es : List (Nat × Severity × WState))
  | chime (b : ChimeStatus)
  | door (e : DoorEntry)
  | doors (es : List DoorEntry) (shared : DoorShared)
  | policy (p : DoorPolicy)
  | faultCount (held : Nat) (full : Bool)
  | cleared (erased kept : Nat)
  | freezeList (signals : List Nat)
  deriving DecidableEq, Repr, Inhabited

/-- A reply in the reply path. `rate` is set on an accepted LINK_RATE's reply: the rate in force once it is sent (R168). -/
structure Reply where
  kind : Byte
  tag : Byte
  result : Result
  body : ReplyBody
  source : ReplySource
  rate : Option Rate
  deriving DecidableEq, Repr, Inhabited

/-- What the transmitter is sending: the head of the reply path, or a report that has left the queue (R172). -/
inductive Sending where
  | reply
  | report (r : Report)
  deriving DecidableEq, Repr, Inhabited

/-- The host link (10). `rx` is none while hunting, and in a frame the bytes taken since the lead byte. -/
structure Link where
  rate : Rate
  rateCfg : Rate
  rx : Option (List Byte)
  slots : List Slot
  busy : List (Byte × Byte)
  replies : List Reply
  reports : List Report
  tx : Option Sending
  enabled : BitVec 16
  badFrame : Bool
  reportsLost : Bool
  lostCount : Nat
  resetPending : Bool
  serial : Nat
  deriving DecidableEq, Repr, Inhabited

/-! ### Hand-offs between blocks -/

/-- What one block has handed to another that takes it as an event of its own (00_scope, "Events and order"; 95): each is
one of the table's events, with what it carries. -/
inductive Handoff where
  | distance (n : Nat)
  | speedCheck (value : Int) (quality : Quality)
  | release
  | repeater
  | doorInput (d : Fin 4)
  | overrideChange
  | brakeChange (applied : Bool)
  | interlockOutput
  | doorWiring (d : Fin 4)
  | stopEdge (assist : Bool)
  | ackEdge
  | chimeRequest (who : Requester) (pattern : Nat) (mode : ChimeMode)
  | chimeWithdraw (who : Requester)
  | faultActive (code : Nat)
  | faultInactive (code : Nat)
  | outputService (on : Bool)
  | gaugeService (on : Bool)
  deriving DecidableEq, Repr

/-- The event by which a hand-off is taken. -/
def Handoff.instr : Handoff → Instr
  | .distance n => .distanceHandoff n
  | .speedCheck v q => .serviceSpeedCheck v q
  | .release => .releaseRedecide
  | .repeater => .repeaterTarget
  | .doorInput d => .doorInputWrite d
  | .overrideChange => .overrideChange
  | .brakeChange a => .serviceBrakeChange a
  | .interlockOutput => .interlockOutputChange
  | .doorWiring d => .doorWiringFault d
  | .stopEdge a => .stopRequestEdge a
  | .ackEdge => .ackEdge
  | .chimeRequest w p m => .chimeRequest w p m
  | .chimeWithdraw w => .chimeWithdrawal w
  | .faultActive c => .faultReportActive c
  | .faultInactive c => .faultReportInactive c
  | .outputService b => .outputServiceChange b
  | .gaugeService b => .gaugeServiceChange b

end Sys2Proof.Machine
end

