-- ==== Sys2Proof/Machine/Initial.lean ====
section
/-!
DEFINITION. The power-on state of each block under a given configuration (R16, R37, R46, R51, R53, R54, R62, R76, R95,
R118, R132, R152, R164, R178), and the state of the store before anything has been written to it.
-/
namespace Sys2Proof.Machine

/-- Record after power-on (R16): substitute if configured, else range min; FAILED; age 65535; flags clear. -/
def SigRec.powerOn (cfg : SigCfg) : SigRec :=
  { cfg := cfg, value := cfg.substitute.getD cfg.rangeMin, quality := .failed, age := 65535, flags := {},
    forced := false, hold := Timer.stopped, refresh := Timer.stopped }

/-- Pulse channel after power-on (R37), the settled level taken from the input; not capturing until a RUN entry. -/
def PulseChan.powerOn (cfg : PulseCfg) (pin : Bool) : PulseChan :=
  { cfg := cfg, pin := pin, settled := pin, qual := none, reference := none, n := 0, t := 0,
    saturated := false, fPrev := 0, log := [], logOverrun := false, abortHold := false,
    wiring := Wiring.clean, windowTimer := none, biasOn := false }

/-- Repeater after power-on (R37): REP low, no half-cycle in progress. -/
def Repeater.powerOn (kOut : Nat) : Repeater := { kOut := kOut, target := none, high := false, half := none }

/-- Sender after power-on (R46). -/
def Sender.powerOn (cfg : SenderCfg) : Sender :=
  { cfg := cfg, filter := none, wiring := Wiring.clean, sampleOn := false }

/-- Switch after power-on (R51). -/
def SwitchIn.powerOn (cfg : SwitchCfg) : SwitchIn :=
  { cfg := cfg, debounced := none, candidate := none, wiring := Wiring.clean, sampleOn := false,
    refreshOn := false }

/-- Supply monitor after power-on (R53, R54). -/
def Supply.powerOn : Supply :=
  { underLimit := false, overLimit := false, lowRun := none, highRun := none, reportOn := false, reported := false,
    measureOn := false }

/-- Output after power-on (R62). -/
def Output.powerOn (owner : Owner) : Output :=
  { owner := owner, request := false, force := none, state := .off, shortCount := 0, shortProven := false,
    cut := false, openRun := none, loadRun := none, energizedRun := none, followRun := none,
    retryOn := false, provingOn := false, senseOn := false }

/-- The counter record of a part whose stored one is lost (R74): zeros, both statuses FAILED. -/
def Counters.lost : Counters :=
  { total := List.replicate 8 0, totalValid := false, odoFull := false, tripA := List.replicate 5 0,
    tripB := List.replicate 5 0, hours := List.replicate 6 0, service := 0, serviceValid := false }

/-- Distance counters after power-on (R76), over a loaded counter record. -/
def DistanceUnit.powerOn (c : Counters) : DistanceUnit :=
  { record := c, r := 0, sub := 0, gate := false, refreshOn := false }

/-- Gauge after power-on (R95). -/
def Gauge.powerOn (cfg : GaugeCfg) : Gauge :=
  { cfg := cfg, state := .unhomed, p := 0, s := 0, up := false, sweepBack := false, tracked := none,
    testPos := none, overrun := 0, freeze := none, coilReported := false, parks := false,
    motionOn := false, updateOn := false }

/-- Warning after power-on, and as a WARNING_CONFIG restarts it (R97, R118). -/
def Warning.powerOn (cfg : WarningCfg) : Warning :=
  { cfg := cfg, state := .inactive, acked := false, results := List.replicate 4 false, condition := false,
    suppressed := false, delay := none, reminder := none, configChain := false }

/-- Warning unit after power-on (R118). -/
def WarnUnit.powerOn (cfgs : Vector WarningCfg 32) : WarnUnit :=
  { warnings := tmap Warning.powerOn cfgs, activation := [], attention := [],
    telltales := Vector.replicate 32 ⟨.off, .off⟩, blink := 0, blinkOn := false, scanOn := false,
    proveOut := none }

/-- Chime generator after power-on (R132). -/
def Chime.powerOn (patterns : Vector ChimePattern 8) (volume : Nat) : Chime :=
  { patterns := patterns, volume := volume, requests := [], nextArrival := 0, state := .idle,
    sounding := none, group := 0, markCount := 0, carrier := ⟨0, 0⟩, phase := none, tailPriority := 0,
    level := false, ticks := 0, drive := 0, badRun := none, fault := none, goodRun := none }

/-- Door after power-on (R152). The code before the first derivation is NOT_FITTED, the factory value of 8.1 (log 6). -/
def Door.powerOn (cfg : DoorCfg) (cycles : Nat) : Door :=
  { cfg := cfg, code := 8, travel := none, implausTimer := none, stuck := false, implausible := false,
    opened := false, cycles := cycles, sinceCommit := 0 }

/-- Door supervisor after power-on (R152). The interlock command outside RUN is released (R153; log 6). -/
def DoorUnit.powerOn (doors : Vector Door 4) (policy : DoorPolicy) (stop assist : Option Nat) : DoorUnit :=
  { doors := doors, policy := policy, permission := false, basis := .speed, interlock := false,
    run := .stopped, overrideRead := false, interlockFault := false, stop := .none, stopPattern := stop,
    assistPattern := assist, refreshOn := false }

/-- Fault memory after power-on (R164), over a loaded fault memory item. -/
def FaultMem.powerOn (im : FaultImage) (freezeList : List Nat) (healLimit : Nat) : FaultMem :=
  { records := im.records, counter := im.counter, full := im.full, cursor := 0, freezeList := freezeList,
    healLimit := healLimit, service := false, refreshOn := false }

/-- An empty fault memory (R164): sequence counter 1, MEMORY_FULL clear. -/
def FaultImage.empty : FaultImage := { records := [], counter := 1, full := false }

/-- Host link after power-on (R178). -/
def Link.powerOn (rate rateCfg : Rate) : Link :=
  { rate := rate, rateCfg := rateCfg, rx := none, slots := [], busy := [], replies := [], reports := [],
    tx := none, enabled := 0#16, badFrame := false, reportsLost := false, lostCount := 0,
    resetPending := false, serial := 0 }

/-- The factory configuration of every block (R186, 11.4). -/
def ConfigImage.factory : ConfigImage :=
  { signals := timap (fun i _ => factorySig i) (Vector.replicate 64 ()),
    pulse := timap (fun i _ => factoryPulse i) (Vector.replicate 4 ()),
    kOut := factoryKOut,
    senders := Vector.replicate 12 factorySender,
    switches := Vector.replicate 24 factorySwitch,
    owners := Vector.replicate 16 .none,
    gauges := Vector.replicate 6 factoryGauge,
    warnings := Vector.replicate 32 factoryWarning,
    patterns := Vector.replicate 8 factoryPattern,
    volume := factoryVolume,
    doors := Vector.replicate 4 factoryDoor,
    policy := factoryPolicy,
    stopPattern := none,
    assistPattern := none,
    freezeList := [],
    healLimit := factoryHealLimit,
    rate := factoryRate,
    tag := 0#32 }

/-- The store before any item was ever written: the spec gives no contents, so every check is bad and every item takes
its fallback at the first start (DESIGN CHOICE, log 5). -/
def Store.blank : Store :=
  { config := ConfigImage.factory, configGood := false,
    counters := ⟨Counters.lost, 0⟩, countersGood := false,
    doorCounts := Vector.replicate 4 0, doorCountsGood := false,
    faults := FaultImage.empty, faultsGood := false }

/-- Power and store block before a start: no supply (11). -/
def Power.off (pin : Bool) : Power :=
  { mode := .off, ignitionPin := pin, ignitionTaken := false, filterOn := false, cycles := 0,
    afterrunOn := false, parkingPending := false, commit := [], writing := none, configGood := false,
    tag := 0#32, saving := none, cause := .powerOn, brownOut := false }

end Sys2Proof.Machine
end

