-- ==== Sys2Proof/Machine/State.lean ====
section
/-!
DEFINITION. The machine's state: the twelve blocks of 00_scope, the store, what blocks have handed to one another, the
capture clock and the queue of waiting commands; the reasons a step can stop; and the state at reset.
-/
namespace Sys2Proof.Machine

/-- The whole state of the 4C24. Plain data. -/
structure State where
  /-- The signal table (01). -/
  signals : Vector SigRec 64
  /-- Pulse channels P0 to P3 (02). -/
  pulse : Vector PulseChan 4
  /-- The speed repeater (2.8). -/
  repeater : Repeater
  /-- Sender channels S0 to S11 (3.1). -/
  senders : Vector Sender 12
  /-- Switch inputs K0 to K23 (3.3). -/
  switches : Vector SwitchIn 24
  /-- The supply monitor (3.4). -/
  supply : Supply
  /-- Outputs O0 to O15 (3.5). -/
  outputs : OutputBank
  /-- Distance counters (04). -/
  distance : DistanceUnit
  /-- Gauges G0 to G5 (05). -/
  gauges : GaugeBank
  /-- The warning unit (06). -/
  warnings : WarnUnit
  /-- The chime generator (07). -/
  chime : Chime
  /-- The door supervisor (08). -/
  doors : DoorUnit
  /-- Fault memory and service mode (09). -/
  faults : FaultMem
  /-- The host link (10). -/
  link : Link
  /-- Power mode, ignition filter, commit list (11). -/
  power : Power
  /-- The nonvolatile store (11.3). -/
  store : Store
  /-- What blocks have handed on and no event has taken yet, oldest first (log 1). -/
  handed : List Handoff
  /-- The 1 MHz capture clock as the last dated event found it, µs (R21; log 3). -/
  clock : Nat
  /-- Commands waiting, first in first out (the model's own). -/
  pending : List Instr
  deriving DecidableEq, Repr

/-- Faults: none. The spec describes no condition that stops the part; every fault it names (09) is a record in the fault
memory, which is state. Safe: no step answers with one. -/
inductive Fault where
  deriving DecidableEq, Repr

/-- Refusals. -/
inductive Refusal where
  /-- Raised by `exec` alone, for a row of the table that has no meaning yet (none is left). Safe. -/
  | notModelled (mnemonic : String)
  deriving DecidableEq, Repr

/-! Updates, one for each field. -/

/-- The state with `signals` replaced. -/
def State.setSignals (s : State) (x : Vector SigRec 64) : State := { s with signals := x }

/-- The state with `pulse` replaced. -/
def State.setPulse (s : State) (x : Vector PulseChan 4) : State := { s with pulse := x }

/-- The state with `repeater` replaced. -/
def State.setRepeater (s : State) (x : Repeater) : State := { s with repeater := x }

/-- The state with `senders` replaced. -/
def State.setSenders (s : State) (x : Vector Sender 12) : State := { s with senders := x }

/-- The state with `switches` replaced. -/
def State.setSwitches (s : State) (x : Vector SwitchIn 24) : State := { s with switches := x }

/-- The state with `supply` replaced. -/
def State.setSupply (s : State) (x : Supply) : State := { s with supply := x }

/-- The state with `outputs` replaced. -/
def State.setOutputs (s : State) (x : OutputBank) : State := { s with outputs := x }

/-- The state with `distance` replaced. -/
def State.setDistance (s : State) (x : DistanceUnit) : State := { s with distance := x }

/-- The state with `gauges` replaced. -/
def State.setGauges (s : State) (x : GaugeBank) : State := { s with gauges := x }

/-- The state with `warnings` replaced. -/
def State.setWarnings (s : State) (x : WarnUnit) : State := { s with warnings := x }

/-- The state with `chime` replaced. -/
def State.setChime (s : State) (x : Chime) : State := { s with chime := x }

/-- The state with `doors` replaced. -/
def State.setDoors (s : State) (x : DoorUnit) : State := { s with doors := x }

/-- The state with `faults` replaced. -/
def State.setFaults (s : State) (x : FaultMem) : State := { s with faults := x }

/-- The state with `link` replaced. -/
def State.setLink (s : State) (x : Link) : State := { s with link := x }

/-- The state with `power` replaced. -/
def State.setPower (s : State) (x : Power) : State := { s with power := x }

/-- The state with `store` replaced. -/
def State.setStore (s : State) (x : Store) : State := { s with store := x }

/-- The state with `handed` replaced. -/
def State.setHanded (s : State) (x : List Handoff) : State := { s with handed := x }

/-- The state with `clock` replaced. -/
def State.setClock (s : State) (x : Nat) : State := { s with clock := x }

/-- The state with `pending` replaced. -/
def State.setPending (s : State) (x : List Instr) : State := { s with pending := x }

/-- The part without supply: every block in its power-on state under the factory configuration, the store, the pins
(ignition line and pulse inputs), the clock and the queue as given (OFF of 11; held so in a brown-out, R52). -/
def State.unpowered (store : Store) (ignition : Bool) (pins : Vector Bool 4) (clock : Nat)
    (pending : List Instr) : State :=
  { signals := timap (fun i _ => SigRec.powerOn (factorySig i)) (Vector.replicate 64 ()),
    pulse := timap (fun i p => PulseChan.powerOn (factoryPulse i) p) pins,
    repeater := Repeater.powerOn factoryKOut,
    senders := Vector.replicate 12 (Sender.powerOn factorySender),
    switches := Vector.replicate 24 (SwitchIn.powerOn factorySwitch),
    supply := Supply.powerOn,
    outputs := { outs := Vector.replicate 16 (Output.powerOn .none), service := false },
    distance := DistanceUnit.powerOn Counters.lost,
    gauges := { gauges := Vector.replicate 6 (Gauge.powerOn factoryGauge), service := false },
    warnings := WarnUnit.powerOn (Vector.replicate 32 factoryWarning),
    chime := Chime.powerOn (Vector.replicate 8 factoryPattern) factoryVolume,
    doors := DoorUnit.powerOn (Vector.replicate 4 (Door.powerOn factoryDoor 0)) factoryPolicy none none,
    faults := FaultMem.powerOn FaultImage.empty [] factoryHealLimit,
    link := Link.powerOn factoryRate factoryRate,
    power := Power.off ignition,
    store := store,
    handed := [],
    clock := clock,
    pending := pending }

/-- The part right after reset: no supply yet (mode OFF), every block in its power-on state, a store never written, all
pins low, clock 0, nothing handed, nothing pending. The start itself is the event PART_START (R179; log 5). -/
def State.reset : State :=
  State.unpowered Store.blank false (Vector.replicate 4 false) 0 []

end Sys2Proof.Machine
end

