-- ==== Sys2Proof/Machine/Flags.lean ====
section
/-!
DEFINITION. The sticky flags (R9): joining, clearing, testing, and which became set.
-/
namespace Sys2Proof

/-- Flags set in either. -/
def SigFlags.or (a b : SigFlags) : SigFlags :=
  { overLimit := a.overLimit || b.overLimit, underLimit := a.underLimit || b.underLimit, lost := a.lost || b.lost,
    implausible := a.implausible || b.implausible }

/-- Flags of `a` that are not in `b`. -/
def SigFlags.without (a b : SigFlags) : SigFlags :=
  { overLimit := a.overLimit && !b.overLimit, underLimit := a.underLimit && !b.underLimit, lost := a.lost && !b.lost,
    implausible := a.implausible && !b.implausible }

/-- Flags set in both. -/
def SigFlags.and (a b : SigFlags) : SigFlags :=
  { overLimit := a.overLimit && b.overLimit, underLimit := a.underLimit && b.underLimit, lost := a.lost && b.lost,
    implausible := a.implausible && b.implausible }

/-- ANY: the OR of the four (R9). -/
def SigFlags.any (a : SigFlags) : Bool := a.overLimit || a.underLimit || a.lost || a.implausible

/-- Some flag passed from clear to set (R9). -/
def SigFlags.rose (old new : SigFlags) : Bool := (new.without old).any

namespace Machine

/-- The flags byte of a SIGNAL_READ entry (10.8): OVER, UNDER, LOST, IMPLAUSIBLE, ANY, forced mark from bit 0 up. -/
def flagsByte (f : SigFlags) (forced : Bool) : Byte :=
  BitVec.ofNat 8 (f.overLimit.toNat + 2 * f.underLimit.toNat + 4 * f.lost.toNat + 8 * f.implausible.toNat
    + 16 * f.any.toNat + 32 * forced.toNat)

/-- The quality code of a SIGNAL_READ entry (10.8). -/
def qualityByte : Quality → Byte
  | .valid => 0#8
  | .held => 1#8
  | .substitute => 2#8
  | .failed => 3#8

end Machine

end Sys2Proof
end

