-- ==== Sys2Proof/Machine/Ops.lean ====
section
/-!
DEFINITION. The operations every block shares: the clock, hand-offs between blocks, fault codes and reports, the report
queue, the commit list, and the request buffer.
-/
namespace Sys2Proof.Machine

/-! ### Reading -/

/-- Signal record `i`. -/
def State.sig (s : State) (i : Nat) : SigRec := tget s.signals i

/-- RUN or AFTERRUN: the modes in which the blocks sample, write and judge. -/
def State.active (s : State) : Bool := s.power.mode == .run || s.power.mode == .afterrun

/-- Supply present: any mode but OFF. -/
def State.powered (s : State) : Bool := s.power.mode != .off

/-- A record reads VALID with value 1: an input is active, a switch applied (8.1, R17). -/
def SigRec.isActive (r : SigRec) : Bool := r.quality == .valid && r.value == 1

/-- A record reads VALID with value 0: an input is inactive (8.1). -/
def SigRec.isInactive (r : SigRec) : Bool := r.quality == .valid && r.value == 0

/-- A door input is neither active nor inactive, and so not VALID, unless its record reads VALID with 0 or 1 (8.1). -/
def SigRec.isSettled (r : SigRec) : Bool := r.isActive || r.isInactive

/-- The record of switch input `k`. -/
def State.switchRec (s : State) (k : Nat) : SigRec := s.sig (16 + k)

/-- The input holding a role, if one does. -/
def State.holderOf (s : State) (role : Role) : Option Nat :=
  (List.range 24).find? fun k => (tget s.switches k).cfg.role == role

/-- The switch holding `role` is VALID and active; false when no switch holds it (R17, R143, R165). -/
def State.roleActive (s : State) (role : Role) : Bool :=
  match s.holderOf role with
  | none => false
  | some k => (s.switchRec k).isActive

/-- Switch `k` is named by some input of a door's configuration (R133; an unfitted door's assignments count too). -/
def doorAssigns (c : DoorCfg) (k : Nat) : Bool :=
  c.closed == some k || c.locked == some k || c.openSw == some k || c.edge == some k || c.emergency == some k

/-- Door `d`. -/
def State.door (s : State) (d : Nat) : Door := tget s.doors.doors d

/-- Switch `k` is assigned as an input of some door. -/
def State.doorInput (s : State) (k : Nat) : Bool :=
  (List.range 4).any fun d => doorAssigns (s.door d).cfg k

/-! ### Clock and hand-offs -/

/-- The clock as a dated event finds it; it never runs back (log 3). -/
def advance (t : Nat) (s : State) : State := s.setClock (max s.clock t)

/-- Whole ms from `start` to now. -/
def State.msSince (s : State) (start : Nat) : Nat := (s.clock - start) / 1000

/-- Hand something to another block, which takes it as an event of its own (log 1). -/
def hand (h : Handoff) (s : State) : State := s.setHanded (s.handed ++ [h])

/-- Take a hand-off: the oldest equal one, if one stands, is no longer waiting (log 1). -/
def take (h : Handoff) (s : State) : State := s.setHanded (s.handed.erase h)

/-- A hand-off is taken in RUN and AFTERRUN, and later if it was handed before (log 1). -/
def State.takes (s : State) (h : Handoff) : Bool := s.active || (s.powered && s.handed.contains h)

/-! ### Fault codes and reports (9.1) -/

/-- Fault classes in the order of their numbers 1 to 10. -/
inductive FaultClass where
  | sender | switch | pulse | output | gauge | door | tone | supply | store | warning
  deriving DecidableEq, Repr, Inhabited

/-- Symptoms in the order of their numbers 1 to 11. -/
inductive Symptom where
  | opened | shorted | supplyShort | lockedOut | implausible | stuck | coilOpen | underVoltage | configLost
  | countersLost | event
  deriving DecidableEq, Repr, Inhabited

/-- Class numbers (9.1). -/
def classNumber : FaultClass → Nat
  | .sender => 1 | .switch => 2 | .pulse => 3 | .output => 4 | .gauge => 5 | .door => 6 | .tone => 7
  | .supply => 8 | .store => 9 | .warning => 10

/-- Symptom numbers (9.1). -/
def symptomNumber : Symptom → Nat
  | .opened => 1 | .shorted => 2 | .supplyShort => 3 | .lockedOut => 4 | .implausible => 5 | .stuck => 6
  | .coilOpen => 7 | .underVoltage => 8 | .configLost => 9 | .countersLost => 10 | .event => 11

/-- The 16-bit fault code: 4096 × class + 16 × index + symptom (R154). -/
def faultCode (c : FaultClass) (index : Nat) (y : Symptom) : Nat :=
  4096 * classNumber c + 16 * index + symptomNumber y

/-- A code is defined: class, index range and symptom as the class table of 9.1 lists them (R154). -/
def definedCode (code : Nat) : Bool :=
  let index := code % 4096 / 16
  let y := code % 16
  match code / 4096 with
  | 1 => decide (index < 12) && (y == 1 || y == 2)
  | 2 => decide (index < 24) && (y == 1 || y == 2)
  | 3 => decide (index < 4) && (y == 1 || y == 2)
  | 4 => decide (index < 16) && (y == 2 || y == 1 || y == 3 || y == 4)
  | 5 => decide (index < 6) && y == 7
  | 6 => decide (index < 4) && (y == 5 || y == 6)
  | 7 => index == 0 && (y == 1 || y == 2)
  | 8 => index == 0 && y == 8
  | 9 => (index == 0 && y == 9) || ((index == 1 || index == 2) && y == 10)
  | 10 => decide (index < 32) && y == 11
  | _ => false

/-- Report a fault active or inactive to the fault memory (9.3). -/
def reportFault (c : FaultClass) (index : Nat) (y : Symptom) (active : Bool) (s : State) : State :=
  hand (if active then .faultActive (faultCode c index y) else .faultInactive (faultCode c index y)) s

/-! ### The report queue (10.5) -/

/-- Place of a report kind's mark in the enabled set: its code less 0x90 (10.5). -/
def ReportKind.place : ReportKind → Nat
  | .warningChange => 0 | .telltaleChange => 1 | .attentionChange => 2 | .doorChange => 3
  | .stopRequestChange => 4 | .signalFlags => 5 | .faultChange => 6 | .gaugeState => 7 | .outputState => 8
  | .powerChange => 9 | .serviceChange => 10 | .reportsLost => 11

/-- Entries of the report queue (10.5). -/
def reportQueueSize : Nat := 16

/-- Saturation of the count of lost reports (R174). -/
def lostMax : Nat := 65535

/-- An entry of the same kind and subject. -/
def Report.same (r : Report) (k : ReportKind) (subject : Nat) : Bool := r.kind == k && r.subject == subject

/-- An offered report acts on the queue (R173): discarded when its kind is disabled, else it replaces the body of the
entry of its kind and subject in place, is appended, or is dropped and counted (R174). -/
def Link.offer (l : Link) (k : ReportKind) (subject : Nat) (body : ReportBody) : Link :=
  if !l.enabled.getLsbD k.place then l
  else if l.reports.any (·.same k subject) then
    { l with reports := l.reports.map fun r => if r.same k subject then { r with body := body } else r }
  else if l.reports.length < reportQueueSize then { l with reports := l.reports ++ [⟨k, subject, body⟩] }
  else { l with reportsLost := true,
                lostCount := if l.reportsLost then min lostMax (l.lostCount + 1) else 1 }

/-- A queued REPORTS_LOST with its count raised (R174). -/
def Report.raiseLost (by_ : Nat) (r : Report) : Report :=
  match r.body with
  | .reportsLost c => { r with body := .reportsLost (min lostMax (c + by_)) }
  | _ => r

/-- An entry of the queue has become free (R174): while REPORTS_LOST is set, a REPORTS_LOST report carrying the count is
appended or merged into the queued one, and the flag and the count are cleared. -/
def Link.entryFreed (l : Link) : Link :=
  if !l.reportsLost then l
  else
    { l with
      reports := if l.reports.any (·.kind == .reportsLost)
        then l.reports.map fun r => if r.kind == .reportsLost then r.raiseLost l.lostCount else r
        else l.reports ++ [⟨.reportsLost, 0, .reportsLost l.lostCount⟩],
      reportsLost := false, lostCount := 0 }

/-- A block offers a report to the link. -/
def offer (k : ReportKind) (subject : Nat) (body : ReportBody) (s : State) : State :=
  s.setLink (s.link.offer k subject body)

/-! ### The commit list (11.3) -/

/-- The working configuration of every block, as the configuration image holds it. -/
def State.image (s : State) : ConfigImage :=
  { signals := tmap SigRec.cfg s.signals,
    pulse := tmap PulseChan.cfg s.pulse,
    kOut := s.repeater.kOut,
    senders := tmap Sender.cfg s.senders,
    switches := tmap SwitchIn.cfg s.switches,
    owners := tmap Output.owner s.outputs.outs,
    gauges := tmap Gauge.cfg s.gauges.gauges,
    warnings := tmap Warning.cfg s.warnings.warnings,
    patterns := s.chime.patterns,
    volume := s.chime.volume,
    doors := tmap Door.cfg s.doors.doors,
    policy := s.doors.policy,
    stopPattern := s.doors.stopPattern,
    assistPattern := s.doors.assistPattern,
    freezeList := s.faults.freezeList,
    healLimit := s.faults.healLimit,
    rate := s.link.rateCfg,
    tag := s.power.tag }

/-- The fault memory item as it stands (9). -/
def FaultMem.image (f : FaultMem) : FaultImage := { records := f.records, counter := f.counter, full := f.full }

/-- The write of an item as it stands, with the time it takes (R183). -/
def State.writeOf (s : State) : Item → Write
  | .config => ⟨.config s.image, 60⟩
  | .counters => ⟨.counters ⟨s.distance.record, s.power.cycles⟩, 8⟩
  | .doorCounts => ⟨.doorCounts (tmap Door.cycles s.doors.doors), 8⟩
  | .faults => ⟨.faults s.faults.image, 12 * max 1 s.faults.records.length⟩

/-- Queue an item (R183): appended unless it waits already; the item being written may be queued again. -/
def enqueue (i : Item) (s : State) : State :=
  if s.power.commit.contains i then s
  else s.setPower { s.power with commit := s.power.commit ++ [i] }

/-- Serve the commit list (R183): with no write in flight the head leaves the list and its write begins. An event that queues
items serves the list once, at its end (DESIGN CHOICE, log 52). -/
def serve (s : State) : State :=
  match s.power.writing, s.power.commit with
  | none, i :: rest => s.setPower { s.power with writing := some (s.writeOf i), commit := rest }
  | _, _ => s

/-- An item changed: while a RESET waits for its restart it is queued again (R177). -/
def touch (i : Item) (s : State) : State := if s.link.resetPending then enqueue i s else s

/-- The item is in the commit list or being written (R75, R151). -/
def State.committing (s : State) (i : Item) : Bool :=
  s.power.commit.contains i ||
    match s.power.writing with
    | none => false
    | some w => w.data.item == i

/-! ### The request buffer (10.3) -/

/-- Slots of the request buffer, and entries of the busy list (R170). -/
def slotCount : Nat := 4

/-- The slot handed to its owner, if one is. -/
def Link.inHand (l : Link) : Option Slot := l.slots.find? (·.stage == .inHand)

/-- The oldest WAITING slot becomes IN_HAND. -/
def handFirst : List Slot → List Slot
  | [] => []
  | x :: xs => if x.stage == .waiting then { x with stage := .inHand } :: xs else x :: handFirst xs

/-- When no slot is IN_HAND the oldest WAITING slot becomes IN_HAND (R171). -/
def Link.handNext (l : Link) : Link :=
  match l.inHand with
  | some _ => l
  | none => { l with slots := handFirst l.slots }

/-- A slot with its stage set. -/
def setStage (serial : Nat) (st : Stage) (xs : List Slot) : List Slot :=
  xs.map fun x => if x.serial == serial then { x with stage := st } else x

/-- A reply carries its fields with OK and ADJUSTED, and the result code alone otherwise (R171). -/
def Result.carries (r : Result) : Bool := r == .ok || r == .adjusted

/-- A slot's reply is formed and enters the reply path (R171). -/
def Link.answer (l : Link) (x : Slot) (res : Result) (body : ReplyBody) (rate : Option Rate) : Link :=
  { l with
    slots := setStage x.serial .answered l.slots,
    replies := l.replies ++
      [⟨x.kind, x.tag, res, if res.carries then body else .none, .slot x.serial, rate⟩] }

/-- What an owner answers: the state after the request, the result code and the reply's fields. -/
structure Answer where
  state : State
  result : Result
  body : ReplyBody
  rate : Option Rate := none

/-- A refusal with a result code: nothing changed. -/
def refuse (res : Result) (s : State) : Answer := ⟨s, res, .none, none⟩

/-- The request in hand is taken by its owner when it is of the kind named: the owner acts on it and forms the reply, and
the link goes on to the next waiting slot (R171). When no request of that kind is in hand the event does not occur, and
nothing changes (log 2). -/
def handle (kind : Byte) (act : List Byte → State → Answer) (s : State) : State :=
  match s.link.inHand with
  | none => s
  | some x =>
    if x.kind = kind then
      let a := act x.body s
      a.state.setLink ((a.state.link.answer x a.result a.body a.rate).handNext)
    else s

/-- A request whose body has fields: BAD_LENGTH, then RANGE for a code that is not defined, before anything else. -/
def checked (b : BodyForm) (act : State → Answer) (_ : List Byte) (s : State) : Answer :=
  if !b.lengthOk then refuse .badLength s
  else if !b.codesOk then refuse .range s
  else act s

/-- A request that carries no fields: its body is empty. -/
def bare (act : State → Answer) (body : List Byte) (s : State) : Answer :=
  if body.isEmpty then act s else refuse .badLength s

/-- OK with the fields given. -/
def ok (body : ReplyBody) (s : State) : Answer := ⟨s, .ok, body, none⟩

/-- OK, or ADJUSTED when some field was clamped (00_scope, "Ranges"). -/
def okAdjusted (adjusted : Bool) (body : ReplyBody) (s : State) : Answer :=
  ⟨s, if adjusted then .adjusted else .ok, body, none⟩

end Sys2Proof.Machine
end

