-- ==== Sys2Proof/Machine/Operands.lean ====
section
/-!
DEFINITION. The operand forms of the configuration requests: for each, when it is refused with RANGE, and the clamps that
make its reply ADJUSTED (00_scope, "Ranges"; R7, R18, R35, R39, R47, R77, R96, R119, R133, R142, R160).
-/
namespace Sys2Proof.Machine

/-! ### Signals (R7) -/

/-- Range in order and substitute within it (R7). -/
def sigCfgValid (c : SigCfg) : Bool :=
  decide (c.rangeMin ≤ c.rangeMax) &&
    match c.substitute with
    | none => true
    | some v => decide (c.rangeMin ≤ v) && decide (v ≤ c.rangeMax)

/-- Clamped refresh limit of a host slot: 0, or 50 … 60000 (R7). -/
def clampRefresh (r : Nat) : Nat := if r = 0 then 0 else clampNat 50 60000 r

/-- Clamps of SIGNAL_CONFIG; the refresh limit is ignored for records 0 to 51, which keep theirs (R7). -/
def sigCfgClamp (i : Nat) (kept : Nat) (c : SigCfg) : SigCfg :=
  { c with holdLimit := min 60000 c.holdLimit, refreshLimit := if 52 ≤ i then clampRefresh c.refreshLimit else kept }

/-- A clamp took place: the hold limit, or a host slot's refresh limit (R7). -/
def sigCfgAdjusted (i : Nat) (c : SigCfg) : Bool :=
  decide (60000 < c.holdLimit) || (decide (52 ≤ i) && clampRefresh c.refreshLimit != c.refreshLimit)

/-- The fixed part of an internal record's configuration: range, hold limit and substitute (R15). -/
def sigFixedMatches (i : Nat) (c : SigCfg) : Bool :=
  c.rangeMin == (factorySig i).rangeMin && c.rangeMax == (factorySig i).rangeMax &&
    c.holdLimit == (factorySig i).holdLimit && c.substitute == (factorySig i).substitute

/-! ### Pulse channels (R18, R35) -/

/-- Channel number, D and M of PULSE_CONFIG (R18). R18 states nothing of an M or a D above 65535, and they are taken as
they stand (DESIGN CHOICE, log 42). -/
def pulseValid (ch : Nat) (c : PulseCfg) : Bool :=
  decide (ch ≤ 3) && c.scaleD != 0 && (ch == 0 || c.scaleM != 0)

/-- Clamps of PULSE_CONFIG; on P0 M stays 360 and D is at least 1000 (R18). None is stated for an M or a D above 65535
(DESIGN CHOICE, log 42). -/
def pulseClamp (ch : Nat) (c : PulseCfg) : PulseCfg :=
  { c with
    width := min 1000 c.width, window := clampNat 10 100 c.window, timeout := clampNat 50 5000 c.timeout,
    scaleM := if ch = 0 then 360 else c.scaleM, scaleD := if ch = 0 then max 1000 c.scaleD else c.scaleD,
    threshold := min 2000 c.threshold }

/-- A clamp took place; the ignored M of P0 is none (R18). -/
def pulseAdjusted (ch : Nat) (c : PulseCfg) : Bool :=
  pulseClamp ch c != { c with scaleM := if ch = 0 then 360 else c.scaleM }

/-- Repeater constant in 1000 … 25000 (R35). -/
def kOutClamp (k : Nat) : Nat := clampNat 1000 25000 k

/-! ### Senders and switches (R39, R47) -/

/-- Points, their order and spans, and the thresholds of SENDER_CONFIG (R39). -/
def senderValid (ch : Nat) (c : SenderCfg) : Bool :=
  decide (ch ≤ 11) && decide (2 ≤ c.curve.length) && decide (c.curve.length ≤ 10) &&
    c.curve.all (fun p => decide (p.1 ≤ 4095) && decide (-8000000 ≤ p.2) && decide (p.2 ≤ 8000000)) &&
    strictlyRising (c.curve.map fun p => (p.1 : Int)) && decide (c.shortAt < c.openAt)

/-- Confirm time in 100 … 10000 ms (R39). -/
def clampConfirm (n : Nat) : Nat := clampNat 100 10000 n

/-- Recovery time in 100 … 30000 ms (R39). -/
def clampRecovery (n : Nat) : Nat := clampNat 100 30000 n

/-- Clamps of SENDER_CONFIG (R39). -/
def senderClamp (c : SenderCfg) : SenderCfg :=
  { c with shift := min 10 c.shift, confirm := clampConfirm c.confirm, recovery := clampRecovery c.recovery }

/-- Clamps of SWITCH_CONFIG (R47). -/
def switchClamp (c : SwitchCfg) : SwitchCfg :=
  { c with debounce := clampNat 2 500 c.debounce, confirm := clampConfirm c.confirm,
           recovery := clampRecovery c.recovery }

/-- Inputs other than `k` that hold a role. -/
def State.othersHolding (s : State) (k : Nat) (role : Role) : Nat :=
  ((List.range 24).filter fun j => j != k && (tget s.switches j).cfg.role == role).length

/-- Input number, band boundaries, the limits on STOP_REQ and ASSIST_REQ, and roles of door inputs (R47). -/
def switchValid (k : Nat) (c : SwitchCfg) (s : State) : Bool :=
  decide (k ≤ 23) && decide (c.shortLimit < c.split) && decide (c.split < c.openLimit) &&
    decide (c.openLimit ≤ 4095) && !(c.role == .stopReq && decide (4 ≤ s.othersHolding k .stopReq)) &&
    !(c.role == .assistReq && decide (2 ≤ s.othersHolding k .assistReq)) &&
    !(c.role != .none && s.doorInput k)

/-! ### Outputs (R55) -/

/-- Output number and telltale index of OUTPUT_CONFIG (R55). -/
def outputValid (o : Nat) (w : Owner) : Bool :=
  decide (o ≤ 15) &&
    match w with
    | .telltale t => decide (t ≤ 31)
    | _ => true

/-! ### Gauges (R77) -/

/-- Index, source, Pmax, curve and fail position of GAUGE_CONFIG, against the Pmax it carries (R77). -/
def gaugeValid (g : Nat) (c : GaugeCfg) : Bool :=
  decide (g ≤ 5) && (match c.source with | none => true | some n => decide (n ≤ 63)) &&
    decide (60 ≤ c.pmax) && decide (c.pmax ≤ 4095) && decide (2 ≤ c.curve.length) &&
    decide (c.curve.length ≤ 8) && strictlyRising (c.curve.map Prod.fst) &&
    c.curve.all (fun p => decide (p.2 ≤ c.pmax)) && decide (c.failPos ≤ c.pmax)

/-- Clamps of GAUGE_CONFIG (R77). -/
def gaugeClamp (c : GaugeCfg) : GaugeCfg :=
  { c with vmax := clampNat 1 12 c.vmax, deadband := min 15 c.deadband }

/-! ### Warnings (R96) -/

/-- Signal and warning numbers, hysteresis and flag set of a term (R96). -/
def termValid : Term → Bool
  | .compare n _ _ h _ => decide (n ≤ 63) && decide (0 ≤ h)
  | .quality n _ => decide (n ≤ 63)
  | .flagged n f => decide (n ≤ 63) && f.any
  | .warning w => decide (w ≤ 31)

/-- A chime of a warning: pattern 0 to 7 in one of the three modes of 6.1 (R96). -/
def warningChimeValid : Option (Nat × ChimeMode) → Bool
  | none => true
  | some (p, m) => decide (p ≤ 7) && m != .endless

/-- Index, terms, telltale, chime and suppressor of WARNING_CONFIG (R96). -/
def warningValid (w : Nat) (c : WarningCfg) : Bool :=
  decide (w ≤ 31) && decide (1 ≤ c.terms.length) && decide (c.terms.length ≤ 4) && c.terms.all termValid &&
    (match c.telltale with | none => true | some t => decide (t ≤ 31)) && warningChimeValid c.chime &&
    (match c.suppressor with | none => true | some j => decide (j ≤ 31))

/-- Clamps of WARNING_CONFIG (R96). -/
def warningClamp (c : WarningCfg) : WarningCfg :=
  { c with onDelay := min 60000 c.onDelay, offDelay := min 60000 c.offDelay, reminder := min 600 c.reminder }

/-! ### Chime patterns (R119) -/

/-- A carrier whose counts are both set. -/
def carrierValid (c : Carrier) : Bool := c.high != 0 && c.low != 0

/-- Index, carriers, mode and priority of CHIME_PATTERN_SET (R119). R119 states nothing of carrier counts and repeats
above 255, and they are taken as they stand (DESIGN CHOICE, log 42). -/
def patternValid (i : Nat) (p : ChimePattern) : Bool :=
  decide (i ≤ 7) && carrierValid p.carrierA &&
    (match p.carrierB with | none => p.mode == .single | some b => carrierValid b) && decide (p.priority ≤ 7)

/-- Clamps of CHIME_PATTERN_SET (R119). -/
def patternClamp (p : ChimePattern) : ChimePattern :=
  { p with mark := clampNat 1 200 p.mark, space := min 200 p.space, gap := min 500 p.gap,
           groupSize := clampNat 1 8 p.groupSize }

/-! ### Doors (R133, R142) -/

/-- The switches a door's configuration names, in the order of the roles. -/
def doorInputs (c : DoorCfg) : List Nat :=
  [c.closed, c.locked, c.openSw, c.edge, c.emergency].filterMap id

/-- No switch is named twice. -/
def noRepeats : List Nat → Bool
  | [] => true
  | x :: xs => !xs.contains x && noRepeats xs

/-- Switch `k` is assigned to a door other than `d`. -/
def State.otherDoorInput (s : State) (d k : Nat) : Bool :=
  (List.range 4).any fun j => j != d && doorAssigns (s.door j).cfg k

/-- The tests of R133 on a DOOR_CONFIG for a door. -/
def doorValid (d : Nat) (c : DoorCfg) (s : State) : Bool :=
  decide (d ≤ 3) && (doorInputs c).all (fun k => decide (k ≤ 23)) && !(c.fitted && c.closed.isNone) &&
    noRepeats (doorInputs c) && (doorInputs c).all (fun k => !s.otherDoorInput d k) &&
    (doorInputs c).all (fun k => (tget s.switches k).cfg.role == .none)

/-- Travel limit in 1 … 20 s (R133). -/
def doorClamp (c : DoorCfg) : DoorCfg := { c with travel := clampNat 1 20 c.travel }

/-- Clamps of DOOR_POLICY (R142). -/
def policyClamp (p : DoorPolicy) : DoorPolicy :=
  { speed := clampInt 50 1000 p.speed, hysteresis := clampInt 10 500 p.hysteresis,
    delay := clampInt 0 5000 p.delay }

/-- A chime pattern index, or none (R148). -/
def stopPatternValid : Option Nat → Bool
  | none => true
  | some p => decide (p ≤ 7)

/-! ### Link rates (R168) -/

/-- The rate a code names, if any (R168). -/
def rateOfCode : Nat → Option Rate
  | 0 => some .r57600
  | 1 => some .r115200
  | 2 => some .r230400
  | 3 => some .r460800
  | _ => none

end Sys2Proof.Machine
end

