-- ==== Sys2Proof/Machine/Signals.lean ====
section
/-!
DEFINITION. The signal table (01): what each write does to a record, what a change of a record hands to the blocks that
watch it, forcing, ageing, configuration, and the resets of R16.
-/
namespace Sys2Proof.Machine

/-! ### One record -/

/-- A value moved into the record's range. -/
def SigRec.clamp (r : SigRec) (v : Int) : Int := clampInt r.cfg.rangeMin r.cfg.rangeMax v

/-- OVER or UNDER for a value beyond the range (R2). -/
def SigRec.beyond (r : SigRec) (v : Int) : SigFlags :=
  { overLimit := decide (r.cfg.rangeMax < v), underLimit := decide (v < r.cfg.rangeMin) }

/-- A fresh write, with the flags its source asks for (R2); ignored on a forced record (R13). -/
def SigRec.fresh (v : Int) (ask : SigFlags) (r : SigRec) : SigRec :=
  if r.forced then r
  else { r with value := r.clamp v, quality := .valid, age := 0, hold := Timer.stopped,
                flags := (r.flags.or ask).or (r.beyond v) }

/-- The hold limit has run out: SUBSTITUTE with the substitute value, or FAILED with the value kept (R4). -/
def SigRec.expireHold (r : SigRec) : SigRec :=
  match r.cfg.substitute with
  | some v => { r with value := v, quality := .substitute, hold := Timer.stopped }
  | none => { r with quality := .failed, hold := Timer.stopped }

/-- A HELD record whose hold timer stands at its hold limit leaves HELD (R4). -/
def SigRec.settleHold (r : SigRec) : SigRec :=
  if r.quality = .held ∧ r.cfg.holdLimit ≤ r.hold.elapsed then r.expireHold else r

/-- A loss declaration, carrying LOST or not (R3); with hold limit 0 the record passes HELD by (R4). -/
def SigRec.loss (lost : Bool) (r : SigRec) : SigRec :=
  if r.forced then r
  else if r.quality = .valid then
    SigRec.settleHold { r with flags := r.flags.or { lost := lost }, quality := .held, hold := ⟨true, 0⟩ }
  else { r with flags := r.flags.or { lost := lost } }

/-- A failure declaration, with or without a value (R5). -/
def SigRec.failure (v : Option Int) (r : SigRec) : SigRec :=
  if r.forced then r
  else { r with value := (match v with | some x => r.clamp x | none => r.value), quality := .failed,
                hold := Timer.stopped }

/-- A flag setting (R1, R9); not taken on a forced record (R13). -/
def SigRec.flagSet (f : SigFlags) (r : SigRec) : SigRec :=
  if r.forced then r else { r with flags := r.flags.or f }

/-- An accepted force (R13). -/
def SigRec.force (v : Int) (r : SigRec) : SigRec :=
  { r with value := v, quality := .valid, age := 0, hold := Timer.stopped, forced := true }

/-- The lifting of a force (R14). -/
def SigRec.lift (r : SigRec) : SigRec :=
  if r.forced then { r with forced := false, quality := .failed } else r

/-- The record ages by 1 ms (R6). -/
def SigRec.older (r : SigRec) : SigRec := { r with age := if r.age < 65535 then r.age + 1 else r.age }

/-- The hold timer of a HELD record advances by 1 ms, and the expiry that results is taken (R4, R6). -/
def SigRec.tickHold (r : SigRec) : SigRec :=
  if r.quality = .held ∧ r.hold.running then
    SigRec.settleHold { r with hold := ⟨true, r.hold.elapsed + 1⟩ }
  else r

/-- The refresh timer has reached its limit: it stops, and the table declares a loss with LOST (R11). -/
def SigRec.expireRefresh (r : SigRec) : SigRec := SigRec.loss true { r with refresh := Timer.stopped }

/-- A running refresh timer advances by 1 ms, and the expiry that results is taken (R6, R11). -/
def SigRec.tickRefresh (r : SigRec) : SigRec :=
  if r.refresh.running then
    let r1 := { r with refresh := ⟨true, r.refresh.elapsed + 1⟩ }
    if r1.cfg.refreshLimit ≤ r1.refresh.elapsed then r1.expireRefresh else r1
  else r

/-- One 1 ms expiry of the table's timer (R6). -/
def SigRec.tick (r : SigRec) : SigRec := r.older.tickHold.tickRefresh

/-- An accepted put restarts the refresh timer when the slot's limit is non-zero (R10). -/
def SigRec.restartRefresh (r : SigRec) : SigRec :=
  { r with refresh := if r.cfg.refreshLimit = 0 then Timer.stopped else ⟨true, 0⟩ }

/-- A put on a host slot: a fresh write or a failure declaration, and the refresh timer restarts (R10). -/
def SigRec.put (v : Int) (q : PutQuality) (r : SigRec) : SigRec :=
  SigRec.restartRefresh (match q with
    | .valid => r.fresh v {}
    | .failed => r.failure none)

/-- The working state under a new configuration: value clamped without a flag, SUBSTITUTE and HELD settled, a running
refresh timer restarted or stopped (R8), one that stands stopped left as it is (R6). A timer that limit 0 stops has its count
at 0 (DESIGN CHOICE, log 41). -/
def SigRec.reconfigure (c : SigCfg) (r : SigRec) : SigRec :=
  let r1 : SigRec := { r with
    cfg := c, value := clampInt c.rangeMin c.rangeMax r.value,
    refresh :=
      if !r.refresh.running then r.refresh else if c.refreshLimit = 0 then Timer.stopped else ⟨true, 0⟩ }
  match r1.quality with
  | .substitute =>
    match c.substitute with
    | some v => { r1 with value := v }
    | none => { r1 with quality := .failed }
  | _ => r1.settleHold

/-- At a RUN entry: as at power-on, but the sticky flags are kept (R16). -/
def SigRec.runEntry (r : SigRec) : SigRec := { SigRec.powerOn r.cfg with flags := r.flags }

/-- At a SLEEP entry: FAILED with the value kept, no force, timers stopped where they stand (R16). -/
def SigRec.sleepEntry (r : SigRec) : SigRec :=
  { r with quality := .failed, forced := false, hold := { r.hold with running := false },
           refresh := { r.refresh with running := false } }

/-! ### The table and the blocks that watch it -/

/-- The hours gate as R71 judges it. -/
def State.gateOpen (s : State) : Bool := s.power.mode == .run && (s.sig 50).isActive

/-- The distance counters judge the hours gate afresh (R71). -/
def judgeGate (s : State) : State := s.setDistance { s.distance with gate := s.gateOpen }

/-- A flag that passed from clear to set offers SIGNAL_FLAGS when the record's report is enabled (R9). -/
def offerFlags (i : Nat) (old new : SigRec) (s : State) : State :=
  if new.cfg.reportOnFlag && old.flags.rose new.flags then
    offer .signalFlags i (.signalFlags i new.flags) s
  else s

/-- The value or the quality differs. -/
def SigRec.changed (old new : SigRec) : Bool := old.value != new.value || old.quality != new.quality

/-- VALID 0 to VALID 1: an active edge, when it came by a write (R50). -/
def SigRec.edge (old new : SigRec) : Bool := old.isInactive && new.isActive

/-- Hand a write or change of switch record `k` to each door it is assigned to (R135), fitted or not (DESIGN CHOICE,
log 58). -/
def notifyDoors (k : Nat) (s : State) : State :=
  ([0, 1, 2, 3] : List (Fin 4)).foldl
    (fun (acc : State) (d : Fin 4) => if doorAssigns (acc.door d.val).cfg k then hand (.doorInput d) acc else acc) s

/-- Hand an active edge, or a change, of the input holding a role (R50, R144, R146, R166). -/
def notifyRole (role : Role) (old new : SigRec) (write : Bool) (s : State) : State :=
  match role with
  | .ack => if write && old.edge new then hand .ackEdge s else s
  | .stopReq => if write && old.edge new then hand (.stopEdge false) s else s
  | .assistReq => if write && old.edge new then hand (.stopEdge true) s else s
  | .parkingBrake => if old.changed new then hand (.brakeChange new.isActive) (hand .release s) else s
  | .override => if old.changed new then hand .overrideChange s else s
  | .none => s

/-- Hand a write or change of record `i` to the blocks that act on it: record 12 to the door supervisor and the repeater
(R28, R35, R144), a switch record to the doors and by its role, record 50 to the hours gate (R71). -/
def notify (i : Nat) (old new : SigRec) (write : Bool) (s : State) : State :=
  if i = 12 then
    if write || old.changed new then hand .repeater (hand .release s) else s
  else if i = 50 then judgeGate s
  else if 16 ≤ i ∧ i < 40 then
    let s1 := if write || old.changed new then notifyDoors (i - 16) s else s
    notifyRole (tget s.switches (i - 16)).cfg.role old new write s1
  else s

/-- Replace record `i`, offer its flags and tell those who watch it. `write` marks a write or declaration of its source
(or a force), as against a change the table itself makes. -/
def putRec (i : Nat) (new : SigRec) (write : Bool) (s : State) : State :=
  notify i (s.sig i) new write (offerFlags i (s.sig i) new (s.setSignals (tset s.signals i new)))

/-- A source's write on record `i`; nothing happens on a forced record (R13). -/
def sourceWrite (i : Nat) (f : SigRec → SigRec) (s : State) : State :=
  if (s.sig i).forced then s else putRec i (f (s.sig i)) true s

/-- Fresh write of record `i` with flags asked for (R2). -/
def writeFreshWith (i : Nat) (v : Int) (ask : SigFlags) (s : State) : State := sourceWrite i (SigRec.fresh v ask) s

/-- Fresh write of record `i` (R2). -/
def writeFresh (i : Nat) (v : Int) (s : State) : State := writeFreshWith i v {} s

/-- Loss declaration on record `i` (R3). -/
def declareLoss (i : Nat) (lost : Bool) (s : State) : State := sourceWrite i (SigRec.loss lost) s

/-- Failure declaration on record `i` (R5). -/
def declareFailure (i : Nat) (v : Option Int) (s : State) : State := sourceWrite i (SigRec.failure v) s

/-- Flag setting on record `i`: no write, value and quality untouched (R1, R9). -/
def setFlags (i : Nat) (f : SigFlags) (s : State) : State := putRec i ((s.sig i).flagSet f) false s

/-- Lift the force on record `i`, if it carries one (R14). -/
def liftForce (i : Nat) (s : State) : State :=
  if (s.sig i).forced then putRec i (s.sig i).lift false s else s

/-- Lift every force: the end of the service mode (R14). -/
def liftAllForces (s : State) : State := forEach 64 liftForce s

/-- One 1 ms expiry over all records (R6). -/
def ageTick (s : State) : State := forEach 64 (fun i acc => putRec i (acc.sig i).tick false acc) s

/-- Apply a configuration to record `i` (R8). -/
def applySigConfig (i : Nat) (c : SigCfg) (s : State) : State := putRec i ((s.sig i).reconfigure c) false s

/-- Every record at a RUN entry (R16). The blocks that watch records reset themselves at it. -/
def signalsRunEntry (s : State) : State := s.setSignals (tmap SigRec.runEntry s.signals)

/-- Every record at a SLEEP entry (R16). -/
def signalsSleepEntry (s : State) : State := s.setSignals (tmap SigRec.sleepEntry s.signals)

/-- The hold timer of record `i` reaches its hold limit: the 1 ms expiry that reaches it, taken for this record alone
(R4; log 8). -/
def holdExpiry (i : Nat) (s : State) : State :=
  let r := s.sig i
  if s.active && r.quality == .held && r.hold.running && decide (r.cfg.holdLimit ≤ r.hold.elapsed + 1) then
    putRec i r.expireHold false s
  else s

/-- The refresh timer of slot `h` reaches its limit: the 1 ms expiry that reaches it, taken for this slot alone (R11;
log 8). -/
def refreshExpiry (h : Nat) (s : State) : State :=
  let r := s.sig (52 + h)
  if s.active && r.refresh.running && decide (r.cfg.refreshLimit ≤ r.refresh.elapsed + 1) then
    putRec (52 + h) r.expireRefresh true s
  else s

/-! ### Requests of the table -/

/-- A SIGNAL_READ entry (10.8): number, quality, flags, value, age. -/
def sigEntry (s : State) (i : Nat) : List Byte :=
  BitVec.ofNat 8 i :: qualityByte (s.sig i).quality :: flagsByte (s.sig i).flags (s.sig i).forced ::
    (leBytes 4 (s.sig i).value ++ leBytes 2 (s.sig i).age)

/-- SIGNAL_READ (R12): the body's bytes are the numbers, 1 to 12 of them. -/
def signalRead (body : List Byte) (s : State) : Answer :=
  if body.length < 1 ∨ 12 < body.length then refuse .badLength s
  else if body.any (fun b => decide (63 < b.toNat)) then refuse .range s
  else ok (.bytes (body.flatMap fun b => sigEntry s b.toNat)) s

/-- SIGNAL_PUT (R1, R10). -/
def signalPut (i : Nat) (v : Int) (q : PutQuality) (s : State) : Answer :=
  if 63 < i then refuse .range s
  else if i < 52 then refuse .refusedProtected s
  else if !s.active then refuse .conditions s
  else
    okAdjusted (q == .valid && !(s.sig i).forced && ((s.sig i).beyond v).any) .none
      (putRec i ((s.sig i).put v q) true s)

/-- SIGNAL_CONFIG (R7, R8). -/
def signalConfig (i : Nat) (c : SigCfg) (s : State) : Answer :=
  if 63 < i then refuse .range s
  else if !sigCfgValid c then refuse .range s
  else if isInternal i then
    if sigFixedMatches i c then
      ok .none (applySigConfig i { (s.sig i).cfg with reportOnFlag := c.reportOnFlag } s)
    else refuse .refusedProtected s
  else
    okAdjusted (sigCfgAdjusted i c) .none (applySigConfig i (sigCfgClamp i (s.sig i).cfg.refreshLimit c) s)

/-- Clear the named sticky flags of record `i` (R9). -/
def clearFlags (f : SigFlags) (i : Nat) (s : State) : State :=
  s.setSignals (tset s.signals i { s.sig i with flags := (s.sig i).flags.without f })

/-- SIGNAL_CLEAR_FLAGS (R9): one record, or all. -/
def signalClearFlags (i : Option Nat) (f : SigFlags) (s : State) : Answer :=
  match i with
  | some n => if 63 < n then refuse .range s else ok .none (clearFlags f n s)
  | none => ok .none (forEach 64 (clearFlags f) s)

/-- Records kept out of reach of forcing (R13): 12, the door inputs, the PARKING_BRAKE switch, 40 to 51. -/
def State.protectedSig (s : State) (i : Nat) : Bool :=
  i == 12 || isInternal i ||
    (decide (16 ≤ i) && decide (i < 40) &&
      (s.doorInput (i - 16) || (tget s.switches (i - 16)).cfg.role == .parkingBrake))

/-- SIGNAL_FORCE (R13): judged against record 51, then protection, then range. A number above 63 names no record to
judge, and is answered RANGE before the three (DESIGN CHOICE, log 14). -/
def signalForce (i : Nat) (v : Int) (s : State) : Answer :=
  if 63 < i then refuse .range s
  else if !(s.sig 51).isActive then refuse .conditions s
  else if s.protectedSig i then refuse .refusedProtected s
  else if v < (s.sig i).cfg.rangeMin ∨ (s.sig i).cfg.rangeMax < v then refuse .range s
  else ok .none (putRec i ((s.sig i).force v) true s)

/-- SIGNAL_RELEASE (R14). -/
def signalRelease (i : Nat) (s : State) : Answer :=
  if 63 < i then refuse .range s else ok .none (liftForce i s)

end Sys2Proof.Machine
end

