-- ==== Sys2Proof/Machine/Outputs.lean ====
section
/-!
DEFINITION. The output drivers O0 to O15 (3.5, 3.6): requests, commands, driver states, sense judgements, overcurrent and
lockout, the over-voltage cut, forcing, and their resets.
-/
namespace Sys2Proof.Machine

/-! ### One output -/

/-- The command: the force if one is set, otherwise the request (R55). -/
def Output.command (o : Output) : Bool := o.force.getD o.request

/-- What the driver does with the pin. -/
inductive Drive where
  | off | on | highImpedance
  deriving DecidableEq, Repr, Inhabited

/-- The pin by state, command and cut (R56 to R59). -/
def Output.drive (o : Output) : Drive :=
  match o.state with
  | .supplyShort => if o.cut then .off else .highImpedance
  | .on => if o.cut then .off else .on
  | .openLoad => if !o.cut && o.command then .on else .off
  | .off | .shortWait | .lockedOut => .off

/-- Enter ON; with short proven set the proving timer starts, except under the cut (R56, R59). -/
def Output.enterOn (o : Output) : Output := { o with state := .on, provingOn := o.shortProven && !o.cut }

/-- Enter OFF; leaving ON stops the proving timer (R56). -/
def Output.enterOff (o : Output) : Output := { o with state := .off, provingOn := false }

/-- Follow the command as it stands to ON or OFF (R56 to R58). -/
def Output.byCommand (o : Output) : Output := if o.command then o.enterOn else o.enterOff

/-- Act on the command: OFF and ON follow it, the other states keep it (R56 to R58); under the over-voltage cut every
state stays as it stood, and the command is kept until the cut ends (R59, R60). -/
def Output.follow (o : Output) : Output :=
  if o.cut then o
  else match o.state, o.command with
    | .off, true => o.enterOn
    | .on, false => o.enterOff
    | _, _ => o

/-- Clear the open, load, energized, follow and proving runs. -/
def Output.clearRuns (o : Output) : Output :=
  { o with openRun := none, loadRun := none, energizedRun := none, followRun := none, provingOn := false }

/-- A run that a reading starts unless one is running, and any other reading clears (R57, R58). -/
def runOf (good : Bool) (now : Nat) (run : Option Nat) : Option Nat :=
  if good then some (run.getD now) else none

/-- A run has lasted `ms` at time `now`. -/
def lasted (run : Option Nat) (now ms : Nat) : Bool :=
  match run with
  | none => false
  | some t => decide (ms * 1000 ≤ now - t)

/-- Open run: 200 ms (R57). -/
def openMs : Nat := 200
/-- Load run: 200 ms (R57). -/
def loadMs : Nat := 200
/-- Energized run: 200 ms (R58). -/
def energizedMs : Nat := 200
/-- Follow run: 500 ms (R58). -/
def followMs : Nat := 500

/-! ### The bank -/

/-- Output `i`. -/
def State.out (s : State) (i : Nat) : Output := tget s.outputs.outs i

/-- Replace output `i`; a change of its state offers OUTPUT_STATE and, on an INTERLOCK output, is handed to the door
supervisor (R61). -/
def putOutput (i : Nat) (new : Output) (s : State) : State :=
  let s1 := s.setOutputs { s.outputs with outs := tset s.outputs.outs i new }
  if (s.out i).state = new.state then s1
  else
    let s2 := offer .outputState i (.output i new.state new.command new.shortCount) s1
    if new.owner = .interlock then hand .interlockOutput s2 else s2

/-- The on-phase of a pattern at a blink count (R114). -/
def onPhase (p : Pattern) (blink : Nat) : Bool :=
  match p with
  | .off => false
  | .steady => true
  | .slow => decide (blink < 4)
  | .fast => blink % 2 == 0

/-- The present request of an owner (R55). -/
def State.ownerRequest (s : State) : Owner → Bool
  | .none => false
  | .telltale t => onPhase (tget s.warnings.telltales t).shown s.warnings.blink
  | .interlock => s.doors.interlock
  | .release => s.doors.permission
  | .stopSign => s.doors.stop != .none

/-- Hand output `i` its owner's request, when it changed (R55). -/
def handRequest (i : Nat) (s : State) : State :=
  let req := s.ownerRequest (s.out i).owner
  if req = (s.out i).request then s else putOutput i { s.out i with request := req }.follow s

/-- Every owner hands its outputs their requests, where they changed (R55, R114). -/
def handRequests (s : State) : State := forEach 16 handRequest s

/-- Report an output's symptom. -/
def reportOutput (i : Nat) (y : Symptom) (active : Bool) (s : State) : State := reportFault .output i y active s

/-- The sense path finds overcurrent while the driver is on (R56, R57). -/
def overcurrent (i : Nat) (s : State) : State :=
  let o := s.out i
  if o.drive = .on then
    let s0 := if o.state = .openLoad then reportOutput i .opened false s else s
    let count := min 3 (o.shortCount + 1)
    let locked := decide (3 ≤ count)
    let o1 : Output := { o.clearRuns with
      shortCount := count, shortProven := true, state := if locked then .lockedOut else .shortWait,
      retryOn := !locked }
    let s1 := reportOutput i .shorted true (putOutput i o1 s0)
    if locked then reportOutput i .lockedOut true s1 else s1
  else s

/-- The retry timer of an output in SHORT_WAIT expires (R56). -/
def retryExpiry (i : Nat) (s : State) : State :=
  let o := s.out i
  if o.state = .shortWait ∧ o.retryOn then putOutput i (Output.byCommand { o with retryOn := false }) s else s

/-- The proving timer expires in ON: SHORT is disproved (R56). -/
def provingExpiry (i : Nat) (s : State) : State :=
  let o := s.out i
  if o.state = .on ∧ o.provingOn then
    reportOutput i .shorted false (putOutput i { o with shortProven := false, provingOn := false } s)
  else s

/-- Enter SUPPLY_SHORT, where the follow run is the only one kept (R58; DESIGN CHOICE, log 54). -/
def enterSupplyShort (i : Nat) (o : Output) (s : State) : State :=
  let s1 := if o.state = .openLoad then reportOutput i .opened false s else s
  reportOutput i .supplyShort true (putOutput i { o.clearRuns with state := .supplyShort } s1)

/-- The energized run in OFF, or in OPEN_LOAD with command off (R58). A change of command leaves a running one, and the
first reading taken with the command on clears it (DESIGN CHOICE, log 29). -/
def Output.energizedNext (o : Output) (reading : LineReading) (now : Nat) : Option Nat :=
  runOf (decide (o.state ≠ .on) && !o.command && reading == .energized) now o.energizedRun

/-- A reading in ON or OFF: the open run, and in OFF the energized run (R57, R58). OPEN_LOAD is entered without an open or a
load run (DESIGN CHOICE, log 54). -/
def senseDriven (i : Nat) (reading : LineReading) (now : Nat) (s : State) : State :=
  let o := s.out i
  let o1 : Output := { o with
    openRun := runOf (reading == .opened) now o.openRun, energizedRun := o.energizedNext reading now }
  if lasted o1.openRun now openMs then
    reportOutput i .opened true
      (putOutput i { o1 with state := .openLoad, openRun := none, loadRun := none, provingOn := false } s)
  else if lasted o1.energizedRun now energizedMs then enterSupplyShort i o1 s
  else putOutput i o1 s

/-- A reading in OPEN_LOAD: the load run and, with command off, the energized run (R57, R58). -/
def senseOpenLoad (i : Nat) (reading : LineReading) (now : Nat) (s : State) : State :=
  let o := s.out i
  let o1 : Output := { o with
    loadRun := match reading with
      | .loaded => runOf true now o.loadRun
      | .opened => none
      | .energized => o.loadRun,
    energizedRun := o.energizedNext reading now }
  if reading == .loaded && lasted o1.loadRun now loadMs then
    reportOutput i .opened false
      (putOutput i (Output.byCommand { o1 with openRun := none, loadRun := none }) s)
  else if lasted o1.energizedRun now energizedMs then enterSupplyShort i o1 s
  else putOutput i o1 s

/-- A reading follows the command: off with loaded or open, on with energized (R58). -/
def readingFollows (command : Bool) (reading : LineReading) : Bool :=
  if command then reading == .energized else reading != .energized

/-- A reading in SUPPLY_SHORT: the follow run (R58). -/
def senseSupplyShort (i : Nat) (reading : LineReading) (now : Nat) (s : State) : State :=
  let o := s.out i
  let o1 : Output := { o with followRun := runOf (readingFollows o.command reading) now o.followRun }
  if lasted o1.followRun now followMs then
    reportOutput i .supplyShort false (putOutput i (Output.byCommand { o1 with followRun := none }) s)
  else putOutput i o1 s

/-- A 10 ms sense reading (R57 to R59): judged by state, and not at all under the cut. -/
def senseExpiry (i : Nat) (reading : LineReading) (s : State) : State :=
  let o := s.out i
  if !o.senseOn || o.cut then s
  else match o.state with
    | .on | .off => senseDriven i reading s.clock s
    | .openLoad => senseOpenLoad i reading s.clock s
    | .supplyShort => senseSupplyShort i reading s.clock s
    | .shortWait | .lockedOut => s

/-- The over-voltage cut on one output (R59). -/
def Output.cutOff (o : Output) : Output := { o.clearRuns with cut := true }

/-- The end of the cut on one output: it drives by its state again, takes the command kept meanwhile (DEDUCED, log 39),
and with short proven set the proving time begins in ON (R59, R60). -/
def Output.cutEnd (o : Output) : Output :=
  Output.follow { o with cut := false, provingOn := decide (o.state = .on) && o.shortProven }

/-- Over-voltage is declared (R59). -/
def cutOutputs (s : State) : State :=
  s.setOutputs { s.outputs with outs := tmap Output.cutOff s.outputs.outs }

/-- Over-voltage ends (R59); a state that changes with the command kept is reported as any other (R61). -/
def uncutOutputs (s : State) : State := forEach 16 (fun i acc => putOutput i (acc.out i).cutEnd acc) s

/-- OUTPUT_CONFIG's effect (R55, R61): the force is lifted first, then the new owner's request is taken; a gain or loss
of the INTERLOCK owner is handed to the door supervisor. -/
def applyOwner (i : Nat) (w : Owner) (s : State) : State :=
  let o := s.out i
  let s1 := putOutput i { o with force := none }.follow s
  let o1 := s1.out i
  let s2 := putOutput i { o1 with owner := w, request := s1.ownerRequest w }.follow s1
  if (o.owner = .interlock) ≠ (w = .interlock) then hand .interlockOutput s2 else s2

/-- OUTPUT_CONFIG (R55). -/
def outputConfig (i : Nat) (w : Owner) (s : State) : Answer :=
  if outputValid i w then ok .none (applyOwner i w s) else refuse .range s

/-- An OUTPUT_READ entry (R61). -/
def Output.entry (o : Output) : OutputEntry :=
  { owner := o.owner, request := o.request, force := o.force, command := o.command, state := o.state,
    shortCount := o.shortCount, shortProven := o.shortProven, cut := o.cut }

/-- OUTPUT_READ (R61). -/
def outputRead (s : State) : Answer := ok (.outputs (s.outputs.outs.toList.map Output.entry)) s

/-- Set or clear the force of output `i` (R60). -/
def setForce (i : Nat) (f : Option Bool) (s : State) : State :=
  putOutput i { s.out i with force := f }.follow s

/-- OUTPUT_FORCE with the action ON or OFF, its checks in the order of R60. -/
def outputForce (i : Nat) (on : Bool) (s : State) : Answer :=
  if 15 < i then refuse .range s
  else if !s.outputs.service then refuse .conditions s
  else if on = false ∧ (s.out i).owner = .interlock then refuse .refusedProtected s
  else if on = true ∧ (s.out i).state = .lockedOut then refuse .conditions s
  else ok .none (setForce i (some on) s)

/-- OUTPUT_FORCE with the action RELEASE (R60): answered OK in every mode. -/
def outputForceRelease (i : Nat) (s : State) : Answer :=
  if 15 < i then refuse .range s else ok .none (setForce i none s)

/-- Lift the force of output `i`, if it carries one (R60). -/
def liftOutputForce (i : Nat) (s : State) : State :=
  if (s.out i).force = none then s else setForce i none s

/-- The output drivers take an entry into or an end of the service mode; an end lifts every force (R60, R167). -/
def outputServiceChange (on : Bool) (s : State) : State :=
  let s1 := s.setOutputs { s.outputs with service := on }
  if on then s1 else forEach 16 liftOutputForce s1

/-! ### Power modes (R62) -/

/-- One output at a RUN entry: short count 0, a lockout lifted, sense timer started (R62). -/
def outputRunEntry (i : Nat) (s : State) : State :=
  let o := s.out i
  let o1 : Output := { o with shortCount := 0, senseOn := true }
  if o.state = .lockedOut then
    reportOutput i .lockedOut false (putOutput i (Output.follow { o1 with state := .off }) s)
  else putOutput i o1.follow s

/-- One output at a SLEEP entry: driver and timers off; OFF unless LOCKED_OUT; an open load or a supply short standing is
reported inactive; the over-voltage condition, and with it the cut, is cleared (R54, R62; log 23). Every run ends with the
readings that keep it (DESIGN CHOICE, log 54). -/
def outputSleepEntry (i : Nat) (s : State) : State :=
  let o := s.out i
  let s1 := match o.state with
    | .openLoad => reportOutput i .opened false s
    | .supplyShort => reportOutput i .supplyShort false s
    | _ => s
  putOutput i { o.clearRuns with
    state := if o.state = .lockedOut then .lockedOut else .off,
    request := false, force := none, cut := false, retryOn := false, senseOn := false } s1

end Sys2Proof.Machine
end

