-- ==== Sys2Proof/Machine/Distance.lean ====
section
/-!
DEFINITION. The distance counters (04): hand-offs, the decimal advance, the service distance and signal 49, setting and
reading, engine hours.
-/
namespace Sys2Proof.Machine

/-- Replace the counter record's own items. -/
def setCounters (c : Counters) (s : State) : State := s.setDistance { s.distance with record := c }

/-- The distance constant k: P0's scale D (4.1). -/
def State.k (s : State) : Nat := (tget s.pulse 0).cfg.scaleD

/-- Signal 49 from the service distance and its status: a fresh write, or a failure declaration carrying it (R66). -/
def writeServiceSignal (s : State) : State :=
  if s.distance.record.serviceValid then writeFresh 49 s.distance.record.service s
  else declareFailure 49 (some s.distance.record.service) s

/-- The tenths digit passes from 9 to 0: a whole-km carry of a total that is not all nines (R64). -/
def wholeKmCarry (total : List Nat) : Bool := !allNines total && total.head? == some 9

/-- One tenth on the total and both trips (R64). -/
def Counters.advance (c : Counters) : Counters :=
  { c with
    total := if allNines c.total then c.total else digitsInc c.total,
    odoFull := c.odoFull || allNines c.total,
    tripA := digitsInc c.tripA, tripB := digitsInc c.tripB }

/-- One kilometre off the service distance; −9999 stays (R65). -/
def Counters.serviceKm (c : Counters) : Counters :=
  { c with service := if c.service ≤ -9999 then c.service else c.service - 1 }

/-- An advance by one tenth of a kilometre, with its whole-km carry (R64, R65); signal 49 is written in RUN and AFTERRUN
(R66). The commit is queued; the list is served at the end of the hand-off's event (DESIGN CHOICE, log 48). -/
def advanceTenth (s : State) : State :=
  let c := s.distance.record
  let s1 := touch .counters (setCounters c.advance s)
  if wholeKmCarry c.total then
    let s2 := enqueue .counters (setCounters c.advance.serviceKm s1)
    if s.active then writeServiceSignal s2 else s2
  else s1

/-- `n` advances in turn. -/
def advanceTenths : Nat → State → State
  | 0, s => s
  | n + 1, s => advanceTenths n (advanceTenth s)

/-- A hand-off of `n` accepted periods: 10n to r, a tenth for each k, the rest stays in r (R63). A write of the counter
record that can begin does so once, after the last carry, and holds all of them (DESIGN CHOICE, log 48). -/
def distanceHandoff (n : Nat) (s : State) : State :=
  let sum := s.distance.r + 10 * n
  serve (advanceTenths (sum / s.k) (s.setDistance { s.distance with r := sum % s.k }))

/-- The remainder is dropped: k has changed (R67). -/
def clearRemainder (s : State) : State := s.setDistance { s.distance with r := 0 }

/-- Largest total in tenths (R68). -/
def totalMax : Nat := 99999999

/-- ODOMETER_SET (R68). -/
def odometerSet (v : Nat) (s : State) : Answer :=
  let c := s.distance.record
  if totalMax < v then refuse .range s
  else if c.totalValid ∧ v < digitsVal c.total then refuse .conditions s
  else
    let s1 := s.setDistance { s.distance with
      record := { c with total := digitsOf 8 v, odoFull := v == totalMax, totalValid := true }, r := 0 }
    let s2 := if c.totalValid then s1 else reportFault .store 1 .countersLost false s1
    ok (.total v true) (serve (enqueue .counters s2))

/-- TRIP_RESET (R69). -/
def tripReset (t : Trip) (s : State) : Answer :=
  let c := s.distance.record
  let c1 : Counters := match t with
    | .a => { c with tripA := List.replicate 5 0 }
    | .b => { c with tripB := List.replicate 5 0 }
  ok .none (serve (enqueue .counters (setCounters c1 s)))

/-- SERVICE_INTERVAL_SET (R70). In RUN and AFTERRUN signal 49 is written at once. -/
def serviceIntervalSet (km : Int) (s : State) : Answer :=
  let v := clampInt 1 65535 km
  let s1 := setCounters { s.distance.record with service := v, serviceValid := true } s
  let s2 := if s.active then writeServiceSignal s1 else s1
  okAdjusted (v != km) (.serviceKm v) (serve (enqueue .counters s2))

/-- The 100 ms refresh of signal 49 (R66). -/
def serviceDistanceRefresh (s : State) : State :=
  if s.active && s.distance.refreshOn then writeServiceSignal s else s

/-- Milliseconds in a tenth of an hour (R72). -/
def tenthHourMs : Nat := 360000

/-- A tenth of an hour: sub-accumulator 0, hours one tenth up with decimal carry, the counter record queued (R72). -/
def hoursUp (s : State) : State :=
  serve (enqueue .counters (s.setDistance { s.distance with
    sub := 0, record := { s.distance.record with hours := digitsInc s.distance.record.hours } }))

/-- One 1 ms expiry of the hours timer while the gate is open (R71, R72); at all nines counting has stopped. -/
def hoursTick (s : State) : State :=
  if !s.distance.gate then s
  else if allNines s.distance.record.hours then s.setDistance { s.distance with sub := 0 }
  else if tenthHourMs ≤ s.distance.sub + 1 then hoursUp s
  else s.setDistance { s.distance with sub := s.distance.sub + 1 }

/-- The sub-accumulator reaches 360,000 ms: the 1 ms expiry that reaches it (R72; log 8). -/
def hoursTenth (s : State) : State :=
  if s.distance.gate && !allNines s.distance.record.hours && decide (tenthHourMs ≤ s.distance.sub + 1) then
    hoursUp s
  else s

/-- DISTANCE_READ (R75). -/
def distanceRead (s : State) : Answer :=
  let d := s.distance
  ok (.distance
    { total := digitsVal d.record.total, totalValid := d.record.totalValid, odoFull := d.record.odoFull,
      tripA := digitsVal d.record.tripA, tripB := digitsVal d.record.tripB, hours := digitsVal d.record.hours,
      sub := d.sub, gate := d.gate, service := d.record.service, serviceValid := d.record.serviceValid,
      r := d.r, k := s.k, committing := s.committing .counters }) s

/-- Distance counters at a RUN entry: the refresh timer starts; the gate is judged (R76). -/
def distanceRunEntry (s : State) : State := judgeGate (s.setDistance { s.distance with refreshOn := true })

/-- Distance counters at a SLEEP entry: both timers stop; r and the sub-accumulator are kept (R76). -/
def distanceSleepEntry (s : State) : State :=
  s.setDistance { s.distance with refreshOn := false, gate := false }

end Sys2Proof.Machine
end

