-- ==== Sys2Proof/Machine/Pulse.lean ====
section
/-!
DEFINITION. The pulse capture unit (02): qualification, accepted periods, the capture log, evaluation, reconfiguration and
abort, the wiring check, the engine-running signal and the speed repeater.
-/
namespace Sys2Proof.Machine

/-- Pulse channel `i`. -/
def State.chan (s : State) (i : Nat) : PulseChan := tget s.pulse i

/-- Replace pulse channel `i`. -/
def putChan (i : Nat) (c : PulseChan) (s : State) : State := s.setPulse (tset s.pulse i c)

/-- The channel captures: enabled and started (R37). -/
def PulseChan.capturing (c : PulseChan) : Bool := c.cfg.enable && c.windowTimer.isSome

/-- The judgement stands at a confirmed fault. -/
def Judgement.isFault (j : Judgement) : Bool := j == .faultOpen || j == .faultShort

/-- The symptom a confirmed fault reports: OPEN or SHORT (R32, R44). -/
def Judgement.symptom (j : Judgement) : Symptom := if j == .faultShort || j == .suspectShort then .shorted else .opened

/-! ### From edges to accepted periods (R21 to R24) -/

/-- Loss timeout in µs. -/
def PulseChan.timeoutUs (c : PulseChan) : Nat := c.cfg.timeout * 1000

/-- The selected kind of edge (R22). -/
def counted (m : EdgeMode) (rising : Bool) : Bool :=
  match m with
  | .riseToRise => rising
  | .fallToFall => !rising
  | .everyEdge => true

/-- Entries of a capture log (R24). -/
def logSize : Nat := 8

/-- A period joins the log; a full log loses its oldest and sets LOG_OVERRUN (R24). -/
def PulseChan.pushLog (c : PulseChan) (period : Nat) : PulseChan :=
  if c.log.length < logSize then { c with log := c.log ++ [period] }
  else { c with log := c.log.drop 1 ++ [period], logOverrun := true }

/-- An accepted period: counted, spanned and logged (R23, R24); the judgement becomes CLEAN if it stood at a fault (R33). -/
def PulseChan.accept (c : PulseChan) (period : Nat) : PulseChan :=
  let c1 := { c with wiring := if c.wiring.judgement.isFault then Wiring.clean else c.wiring }
  PulseChan.pushLog { c1 with n := c1.n + 1, t := c1.t + period } period

/-- The period from the reference edge to an edge at `te`: at least 1 µs, at most the loss timeout (R22). -/
def PulseChan.period (c : PulseChan) (ref te : Nat) : Nat := min (max 1 (te - ref)) c.timeoutUs

/-- A counted edge at `te` on channel `i` (R22, R33): it becomes the reference edge and, when there was one, ends a
period, which is accepted unless n stands at 65535. -/
def countEdge (i : Nat) (te : Nat) (s : State) : State :=
  let c := s.chan i
  match c.reference with
  | none => putChan i { c with reference := some te } s
  | some ref =>
    if 65535 ≤ c.n then putChan i { c with reference := some te, saturated := true } s
    else
      let s1 := if c.wiring.judgement.isFault
        then reportFault .pulse i c.wiring.judgement.symptom false s else s
      putChan i { c.accept (c.period ref te) with reference := some te } s1

/-- A qualification completes: the settled level changes, and an edge of the time noted has occurred (R21). -/
def qualify (i : Nat) (te : Nat) (s : State) : State :=
  let c := s.chan i
  let s1 := putChan i { c with settled := !c.settled, qual := none } s
  if counted c.cfg.edge (!c.settled) then countEdge i te s1 else s1

/-- The input of channel `i` changes to `high` at `t` (R21): away from the settled level a qualification starts or
restarts, back to it the qualification is dropped; with w = 0 the transition qualifies at once. -/
def pulseTransition (i : Nat) (high : Bool) (t : Nat) (s : State) : State :=
  let c := s.chan i
  if high = c.pin then s
  else
    let s1 := putChan i { c with pin := high } s
    if !c.capturing then s1
    else if high = c.settled then putChan i { c with pin := high, qual := none } s
    else if c.cfg.width = 0 then qualify i t s1
    else putChan i { c with pin := high, qual := some t } s

/-- The new level has persisted for w µs (R21). -/
def qualificationExpiry (i : Nat) (s : State) : State :=
  let c := s.chan i
  match c.qual with
  | none => s
  | some te => if c.capturing then qualify i te (advance (te + c.cfg.width) s) else s

/-! ### Evaluation (R26 to R30, R34) -/

/-- The gap e in µs at time `now`: at least 1, and the loss timeout when there is no reference edge (R26). -/
def PulseChan.gap (c : PulseChan) (now : Nat) : Nat :=
  match c.reference with
  | none => c.timeoutUs
  | some ref => max 1 (now - ref)

/-- The frequency f in mHz (R26). -/
def PulseChan.frequency (c : PulseChan) (now : Nat) : Nat :=
  if 1 ≤ c.n then (roundDiv (c.n * 1000000000) c.t).toNat
  else if c.gap now < c.timeoutUs then min c.fPrev (1000000000 / c.gap now)
  else 0

/-- The value round(f × M / D) (R27). -/
def PulseChan.valueOf (c : PulseChan) (f : Nat) : Int := roundDiv (f * c.cfg.scaleM) c.cfg.scaleD

/-- Withheld from writing: a confirmed wiring fault, or an abort hold with n = 0 (R27, R30). -/
def PulseChan.withheld (c : PulseChan) : Bool := c.wiring.judgement.isFault || (c.abortHold && c.n == 0)

/-- The channel after an evaluation that found `f` (R26, R27, R30): the next window starts with the current W. -/
def PulseChan.evaluated (c : PulseChan) (f : Nat) : PulseChan :=
  { c with fPrev := f, n := 0, t := 0, saturated := false, abortHold := c.abortHold && c.n == 0,
           windowTimer := some c.cfg.window }

/-- Signal 50 from record 13 and P1's running threshold (R34). -/
def writeEngineRunning (s : State) : State :=
  let r := s.sig 13
  writeFresh 50 (if r.quality = .valid ∧ ((s.chan 1).cfg.threshold : Int) ≤ r.value then 1 else 0) s

/-- What a P0 evaluation hands on (R28): n to the distance counters and, when signal 12 was written, the value and
quality to the service mode. -/
def handEvaluation (n : Nat) (wrote : Bool) (s : State) : State :=
  let s1 := hand (.distance n) s
  if wrote then hand (.speedCheck (s.sig 12).value (s.sig 12).quality) s1 else s1

/-- The window timer of channel `i` expires (R26 to R28). -/
def windowExpiry (i : Nat) (s : State) : State :=
  let c := s.chan i
  if !c.capturing then s
  else
    let f := c.frequency s.clock
    let s1 := putChan i (c.evaluated f) s
    let s2 := if c.withheld then s1 else writeFreshWith (12 + i) (c.valueOf f) { overLimit := c.saturated } s1
    if i = 0 then handEvaluation c.n (!c.withheld) s2
    else if i = 1 then writeEngineRunning s2
    else s2

/-! ### Wiring check (R31 to R33) -/

/-- Confirm time of the bias-band check in ms (R31). -/
def biasConfirmMs : Nat := 500
/-- Recovery time of the bias-band check in ms (R31). -/
def biasRecoveryMs : Nat := 1000

/-- The judgement after one in-gap bias check at `now` (the table of R31). -/
def Wiring.biasNext (w : Wiring) (band : Band) (now : Nat) : Wiring :=
  match w.judgement, band with
  | .clean, .within => w
  | .clean, .above => ⟨.suspectOpen, some now, none⟩
  | .clean, .below => ⟨.suspectShort, some now, none⟩
  | .suspectOpen, .within => Wiring.clean
  | .suspectShort, .within => Wiring.clean
  | .suspectOpen, .below => ⟨.suspectShort, some now, none⟩
  | .suspectShort, .above => ⟨.suspectOpen, some now, none⟩
  | .suspectOpen, .above => if lasted w.suspicion now biasConfirmMs then ⟨.faultOpen, none, none⟩ else w
  | .suspectShort, .below => if lasted w.suspicion now biasConfirmMs then ⟨.faultShort, none, none⟩ else w
  | _, .within =>
    let w1 := { w with recovery := some (w.recovery.getD now) }
    if lasted w1.recovery now biasRecoveryMs then Wiring.clean else w1
  | _, _ => { w with recovery := none }

/-- A suspicion returns to CLEAN because the gap is below the loss timeout (R31). -/
def Wiring.dropSuspicion (w : Wiring) : Wiring :=
  match w.judgement with
  | .suspectOpen | .suspectShort => Wiring.clean
  | _ => w

/-- The bias check of channel `i` finds `band` (R31 to R33). -/
def biasCheck (i : Nat) (band : Band) (s : State) : State :=
  let c := s.chan i
  if !(c.capturing && c.biasOn) then s
  else if c.gap s.clock < c.timeoutUs then putChan i { c with wiring := c.wiring.dropSuspicion } s
  else
    let w := c.wiring.biasNext band s.clock
    let s1 := putChan i { c with wiring := w } s
    if w.judgement.isFault && !c.wiring.judgement.isFault then
      reportFault .pulse i w.judgement.symptom true (declareLoss (12 + i) true s1)
    else if c.wiring.judgement.isFault && !w.judgement.isFault then
      reportFault .pulse i c.wiring.judgement.symptom false s1
    else s1

/-! ### Reconfiguration (R18 to R20, R29) -/

/-- Working state as at a RUN entry; the settled level is taken from the input (R37). -/
def PulseChan.restart (c : PulseChan) : PulseChan := PulseChan.powerOn c.cfg c.pin

/-- The channel starts capturing, if it is enabled (R20, R37). -/
def PulseChan.start (c : PulseChan) : PulseChan :=
  if c.cfg.enable then { c.restart with windowTimer := some c.cfg.window, biasOn := true } else c.restart

/-- A channel turned off: stopped and cleared; LOG_OVERRUN keeps its state (R20). -/
def PulseChan.stopped (c : PulseChan) : PulseChan := { c.restart with settled := c.settled, logOverrun := c.logOverrun }

/-- An abort of the window in flight (R29). -/
def PulseChan.aborted (c : PulseChan) : PulseChan :=
  { c with n := 0, t := 0, saturated := false, log := [], fPrev := 0, reference := none, qual := none,
           windowTimer := some c.cfg.window, abortHold := true }

/-- Edge mode, w, M or D differ: the change that aborts a window (R29). -/
def abortingChange (a b : PulseCfg) : Bool :=
  a.edge != b.edge || a.width != b.width || a.scaleM != b.scaleM || a.scaleD != b.scaleD

/-- Channel `i` is turned off in RUN or AFTERRUN (R20). -/
def turnOffChan (i : Nat) (s : State) : State :=
  let c := s.chan i
  let s1 := if c.wiring.judgement.isFault then reportFault .pulse i c.wiring.judgement.symptom false s else s
  let s2 := declareFailure (12 + i) none (putChan i c.stopped s1)
  if i = 1 then writeFresh 50 0 s2 else s2

/-- An accepted PULSE_CONFIG on channel `i` (R19, R20, R29, R67). In SLEEP only the configuration changes, and r: also one
that turns the channel off leaves its log and working state there (DESIGN CHOICE, log 47). -/
def applyPulseConfig (i : Nat) (c : PulseCfg) (s : State) : State :=
  let old := (s.chan i).cfg
  let s0 := if i = 0 ∧ old.scaleD ≠ c.scaleD then clearRemainder s else s
  let s1 := putChan i { s0.chan i with cfg := c } s0
  if !s.active then s1
  else if old.enable && !c.enable then turnOffChan i s1
  else if !old.enable && c.enable then putChan i (s1.chan i).start s1
  else if c.enable && abortingChange old c then
    declareLoss (12 + i) false (putChan i (s1.chan i).aborted s1)
  else s1

/-- PULSE_CONFIG (R18). -/
def pulseConfig (i : Nat) (c : PulseCfg) (s : State) : Answer :=
  if pulseValid i c then
    okAdjusted (pulseAdjusted i c) (.pulse (pulseClamp i c)) (applyPulseConfig i (pulseClamp i c) s)
  else refuse .range s

/-- PULSE_LOG_READ (R25): the log and LOG_OVERRUN are returned and cleared. -/
def pulseLogRead (i : Nat) (s : State) : Answer :=
  let c := s.chan i
  if 3 < i then refuse .range s
  else ok (.pulseLog i c.logOverrun c.log.length c.log) (putChan i { c with log := [], logOverrun := false } s)

/-! ### The speed repeater (R35, R36) -/

/-- The target frequency in mHz from record 12, or "low" (R35). -/
def State.repeaterTarget (s : State) : Option Nat :=
  let r := s.sig 12
  if r.quality = .valid ∧ 0 < r.value then
    let f := (roundDiv (r.value * s.repeater.kOut) 360).toNat
    if f = 0 then none else some f
  else none

/-- Length of a half-cycle in µs at `f` mHz (R36). -/
def halfCycleUs (f : Nat) : Nat := (roundDiv 500000000 f).toNat

/-- A new target is taken; while REP rests low with no half-cycle, a frequency starts the wave with a high half (R36). -/
def Repeater.retarget (target : Option Nat) (r : Repeater) : Repeater :=
  let r1 := { r with target := target }
  match r.half, target with
  | none, some f => { r1 with high := true, half := some (halfCycleUs f) }
  | _, _ => r1

/-- The repeater recomputes its target from record 12 as it stands (R35). -/
def retarget (s : State) : State := s.setRepeater (s.repeater.retarget s.repeaterTarget)

/-- A half-cycle ends: the latest target takes effect (R36). -/
def Repeater.halfEnd (r : Repeater) : Repeater :=
  match r.half with
  | none => r
  | some _ =>
    match r.target with
    | none => { r with high := false, half := none }
    | some f => { r with high := !r.high, half := some (halfCycleUs f) }

/-- REPEATER_CONFIG (R35). -/
def repeaterConfig (k : Nat) (s : State) : Answer :=
  okAdjusted (kOutClamp k != k) .none (retarget (s.setRepeater { s.repeater with kOut := kOutClamp k }))

/-! ### Power modes (R34, R37, R38) -/

/-- The unit at a RUN entry (R34, R37): every channel restarts, REP is low, and signal 50 is written 0 while P1 is off. -/
def pulseRunEntry (s : State) : State :=
  let s1 := (s.setPulse (tmap PulseChan.start s.pulse)).setRepeater (Repeater.powerOn s.repeater.kOut)
  if (s1.chan 1).cfg.enable then s1 else writeFresh 50 0 s1

/-- One channel at a SLEEP entry (R38): stopped, a confirmed fault reported inactive. -/
def pulseSleepEntry (i : Nat) (s : State) : State :=
  let c := s.chan i
  let s1 := if c.wiring.judgement.isFault then reportFault .pulse i c.wiring.judgement.symptom false s else s
  putChan i { c with windowTimer := none, biasOn := false,
                     wiring := if c.wiring.judgement.isFault then Wiring.clean else c.wiring } s1

/-- REP goes low at a SLEEP entry at once (R38). -/
def repeaterSleepEntry (s : State) : State := s.setRepeater (Repeater.powerOn s.repeater.kOut)

end Sys2Proof.Machine
end

