-- ==== Sys2Proof/Machine/Senders.lean ====
section
/-!
DEFINITION. The sender channels (3.1, 3.2): classification, linearisation, filter, wiring judgement, under-voltage,
reconfiguration and resets; and the wiring judgement that coded switches share (R43, R44, R49).
-/
namespace Sys2Proof.Machine

/-! ### Wiring judgement of a sampled line (R43, R44) -/

/-- The judgement after one sample at `now`, with the confirm and recovery times in ms. -/
def Wiring.lineNext (w : Wiring) (band : Band) (now confirm recovery : Nat) : Wiring :=
  match w.judgement, band with
  | .clean, .within => w
  | .clean, .above => ⟨.suspectOpen, some now, none⟩
  | .clean, .below => ⟨.suspectShort, some now, none⟩
  | .suspectOpen, .within => Wiring.clean
  | .suspectShort, .within => Wiring.clean
  | .suspectOpen, .below => ⟨.suspectShort, some now, none⟩
  | .suspectShort, .above => ⟨.suspectOpen, some now, none⟩
  | .suspectOpen, .above => if lasted w.suspicion now confirm then ⟨.faultOpen, none, none⟩ else w
  | .suspectShort, .below => if lasted w.suspicion now confirm then ⟨.faultShort, none, none⟩ else w
  | _, .within =>
    let w1 := { w with recovery := some (w.recovery.getD now) }
    if lasted w1.recovery now recovery then Wiring.clean else w1
  | _, _ => { w with recovery := none }

/-- The judgement at a SLEEP entry or a restart: a confirmed fault becomes CLEAN (R46, R51). -/
def Wiring.endFault (w : Wiring) : Wiring := if w.judgement.isFault then Wiring.clean else w

/-- Report a standing wiring fault inactive, if there is one (R46, R51). -/
def reportWiringEnd (c : FaultClass) (i : Nat) (w : Wiring) (s : State) : State :=
  if w.judgement.isFault then reportFault c i w.judgement.symptom false s else s

/-! ### One channel -/

/-- Sender channel `i`. -/
def State.sender (s : State) (i : Nat) : Sender := tget s.senders i

/-- Replace sender channel `i`. -/
def putSender (i : Nat) (c : Sender) (s : State) : State := s.setSenders (tset s.senders i c)

/-- Classification of a raw sample (R40). -/
def classify (c : SenderCfg) (raw : Nat) : Band :=
  if c.openAt ≤ raw then .above else if raw ≤ c.shortAt then .below else .within

/-- A curve's value at a raw reading (R41). -/
def linearise (c : SenderCfg) (raw : Nat) : Int :=
  interp (c.curve.map fun p => ((p.1 : Int), p.2)) raw

/-- The request a sample carries: UNDER below the first point, OVER above the last (R41). -/
def endRequest (c : SenderCfg) (raw : Nat) : SigFlags :=
  { overLimit := c.curve.getLast?.any fun p => decide (p.1 < raw),
    underLimit := c.curve.head?.any fun p => decide (raw < p.1) }

/-- The filter state after a clean sample of value `x` (R42). -/
def filterNext (shift : Nat) (f : Option Int) (x : Int) : Int :=
  match f with
  | none => 256 * x
  | some v => v + roundDiv (256 * x - v) (2 ^ shift)

/-- The value written from a filter state (R42). -/
def filterOut (f : Int) : Int := roundDiv f 256

/-- A clean sample is linearised, filtered and written (R41, R42). -/
def senderWrite (i raw : Nat) (s : State) : State :=
  let c := s.sender i
  let f := filterNext c.cfg.shift c.filter (linearise c.cfg raw)
  writeFreshWith i (filterOut f) (endRequest c.cfg raw) (putSender i { c with filter := some f } s)

/-- A clean sample of channel `i` (R40, R43, R44). -/
def senderClean (i raw : Nat) (w : Wiring) (s : State) : State :=
  let c := s.sender i
  if w.judgement = .clean then
    if c.wiring.judgement.isFault then
      senderWrite i raw
        (reportFault .sender i c.wiring.judgement.symptom false (putSender i { c with wiring := w, filter := none } s))
    else senderWrite i raw (putSender i { c with wiring := w } s)
  else putSender i { c with wiring := w } s

/-- A sample of channel `i` outside the band (R43, R44). -/
def senderOutside (i : Nat) (w : Wiring) (s : State) : State :=
  let c := s.sender i
  let s1 := putSender i { c with wiring := w } s
  if c.wiring.judgement = .clean then declareLoss i true s1
  else if w.judgement.isFault && !c.wiring.judgement.isFault then
    reportFault .sender i w.judgement.symptom true s1
  else s1

/-- The sample timer of channel `i` expires; no reading is taken during under-voltage (R40, R45). -/
def senderSample (i raw : Nat) (s : State) : State :=
  let c := s.sender i
  if !c.sampleOn || s.supply.underLimit then s
  else
    let band := classify c.cfg raw
    let w := c.wiring.lineNext band s.clock c.cfg.confirm c.cfg.recovery
    match band with
    | .within => senderClean i raw w s
    | .above | .below => senderOutside i w s

/-! ### Under-voltage (R45) -/

/-- A channel's judgement when under-voltage is declared. -/
def Wiring.underVoltage (w : Wiring) : Wiring :=
  if w.judgement.isFault then { w with recovery := none } else Wiring.clean

/-- Under-voltage is declared to channel `i` (R45). -/
def senderUnderVoltage (i : Nat) (s : State) : State :=
  let c := s.sender i
  if !c.sampleOn then s
  else
    let s1 := putSender i { c with wiring := c.wiring.underVoltage } s
    if c.wiring.judgement.isFault then s1 else declareLoss i false s1

/-! ### Configuration and power modes (R39, R46) -/

/-- The working state as at a RUN entry, sampling when enabled (R46). -/
def Sender.start (c : Sender) : Sender := { Sender.powerOn c.cfg with sampleOn := c.cfg.enable }

/-- An accepted SENDER_CONFIG on channel `i` (R39, R46). In SLEEP only the configuration changes. -/
def applySenderConfig (i : Nat) (c : SenderCfg) (s : State) : State :=
  let old := s.sender i
  let s1 := putSender i { old with cfg := c } s
  if !s.active then s1
  else if old.cfg.enable && !c.enable then
    declareFailure i none
      (reportWiringEnd .sender i old.wiring (putSender i (Sender.start { old with cfg := c }) s1))
  else if !old.cfg.enable && c.enable then putSender i (Sender.start { old with cfg := c }) s1
  else if old.cfg.curve ≠ c.curve ∨ old.cfg.shift ≠ c.shift then
    putSender i { old with cfg := c, filter := none } s1
  else s1

/-- SENDER_CONFIG (R39). -/
def senderConfig (i : Nat) (c : SenderCfg) (s : State) : Answer :=
  if senderValid i c then
    okAdjusted (senderClamp c != c) (.sender (senderClamp c)) (applySenderConfig i (senderClamp c) s)
  else refuse .range s

/-- Every channel at a RUN entry (R46). -/
def sendersRunEntry (s : State) : State := s.setSenders (tmap Sender.start s.senders)

/-- One channel at a SLEEP entry (R46). -/
def senderSleepEntry (i : Nat) (s : State) : State :=
  let c := s.sender i
  putSender i { c with sampleOn := false, wiring := c.wiring.endFault } (reportWiringEnd .sender i c.wiring s)

end Sys2Proof.Machine
end

