-- ==== Sys2Proof/Machine/Switches.lean ====
section
/-!
DEFINITION. The switch inputs (3.3): samples and bands, debounce, wiring judgement of coded inputs, refresh, roles,
reconfiguration and resets.
-/
namespace Sys2Proof.Machine

/-- Switch input `k`. -/
def State.switch (s : State) (k : Nat) : SwitchIn := tget s.switches k

/-- Replace switch input `k`. -/
def putSwitch (k : Nat) (c : SwitchIn) (s : State) : State := s.setSwitches (tset s.switches k c)

/-! ### Samples (R48, R49) -/

/-- A PLAIN sample is active (3.3). -/
def plainActive (c : SwitchCfg) (high : Bool) : Bool := high == (c.polarity == .normal)

/-- The side of the middle bands a CODED sample falls on: OPEN_CIRCUIT above, SHORT below (R49). -/
def switchBand (c : SwitchCfg) (raw : Nat) : Band :=
  if raw ≤ c.shortLimit then .below else if c.openLimit ≤ raw then .above else .within

/-- A CODED sample in the middle bands is active: the lower one under NORMAL, the upper under INVERTED (R49). -/
def codedActive (c : SwitchCfg) (raw : Nat) : Bool := decide (raw < c.split) == (c.polarity == .normal)

/-! ### Debounce (R48) -/

/-- A sample equal to the debounced state drops any candidate; one that differs starts a candidate unless one with that
state is running. -/
def SwitchIn.candidateAfter (c : SwitchIn) (a : Bool) (now : Nat) : Option (Bool × Nat) :=
  if c.debounced = some a then none
  else match c.candidate with
    | some (b, t) => if b = a then some (b, t) else some (a, now)
    | none => some (a, now)

/-- A candidate has been seen for the debounce time. -/
def SwitchIn.settles (c : SwitchIn) (cand : Option (Bool × Nat)) (now : Nat) : Bool :=
  match cand with
  | some (_, t) => decide (c.cfg.debounce * 1000 ≤ now - t)
  | none => false

/-- Write the debounced state; the refresh timer starts (R48). -/
def switchWrite (k : Nat) (a : Bool) (s : State) : State :=
  writeFresh (16 + k) a.toNat
    (putSwitch k { s.switch k with debounced := some a, candidate := none, refreshOn := true } s)

/-- One sample reaches the debounce of input `k` (R48). -/
def debounce (k : Nat) (a : Bool) (s : State) : State :=
  let c := s.switch k
  let cand := c.candidateAfter a s.clock
  if c.settles cand s.clock then switchWrite k a s else putSwitch k { c with candidate := cand } s

/-- The debounce starts afresh from this sample, with no debounced state (R49). -/
def debounceAfresh (k : Nat) (a : Bool) (s : State) : State :=
  putSwitch k { s.switch k with debounced := none, candidate := some (a, s.clock) } s

/-! ### Coded inputs (R49) -/

/-- Hand a confirmed wiring fault to each door the input is assigned to (R139), fitted or not (DESIGN CHOICE, log 56). -/
def notifyWiring (k : Nat) (s : State) : State :=
  ([0, 1, 2, 3] : List (Fin 4)).foldl
    (fun (acc : State) (d : Fin 4) =>
      if doorAssigns (acc.door d.val).cfg k then hand (.doorWiring d) acc else acc) s

/-- A CODED sample in the middle bands. -/
def codedWithin (k raw : Nat) (w : Wiring) (s : State) : State :=
  let c := s.switch k
  let a := codedActive c.cfg raw
  let s1 := putSwitch k { c with wiring := w } s
  if w.judgement ≠ .clean then s1
  else if c.wiring.judgement = .clean then debounce k a s1
  else debounceAfresh k a (reportWiringEnd .switch k c.wiring s1)

/-- A CODED sample outside the middle bands. -/
def codedOutside (k : Nat) (w : Wiring) (s : State) : State :=
  let c := s.switch k
  if c.wiring.judgement = .clean then
    declareLoss (16 + k) true
      (putSwitch k { c with wiring := w, candidate := none, debounced := none, refreshOn := false } s)
  else
    let s1 := putSwitch k { c with wiring := w } s
    if w.judgement.isFault && !c.wiring.judgement.isFault then
      notifyWiring k (reportFault .switch k w.judgement.symptom true s1)
    else s1

/-- The 1 ms sample timer of input `k` expires: the level for a PLAIN input, the raw reading for a CODED one (R48). -/
def switchSample (k : Nat) (high : Bool) (raw : Nat) (s : State) : State :=
  let c := s.switch k
  if !c.sampleOn then s
  else match c.cfg.kind with
    | .plain => debounce k (plainActive c.cfg high) s
    | .coded =>
      let band := switchBand c.cfg raw
      let w := c.wiring.lineNext band s.clock c.cfg.confirm c.cfg.recovery
      match band with
      | .within => codedWithin k raw w s
      | .above | .below => codedOutside k w s

/-- The 100 ms refresh timer of input `k` expires: the debounced state is written again (R48). -/
def switchRefresh (k : Nat) (s : State) : State :=
  let c := s.switch k
  if !(c.sampleOn && c.refreshOn) then s
  else match c.debounced with
    | some a => writeFresh (16 + k) a.toNat s
    | none => s

/-! ### Configuration and power modes (R47, R51) -/

/-- Roles that one input alone may hold (R47). -/
def singleRole (r : Role) : Bool := r == .ack || r == .parkingBrake || r == .override

/-- Another input loses a role that input `k` takes (R47). -/
def takeRole (k : Nat) (r : Role) (s : State) : State :=
  if !singleRole r then s
  else s.setSwitches (timap
    (fun j c => if j ≠ k ∧ c.cfg.role = r then { c with cfg := { c.cfg with role := .none } } else c) s.switches)

/-- A change that restarts the input (R47). -/
def restartingChange (a b : SwitchCfg) : Bool :=
  a.kind != b.kind || a.polarity != b.polarity || a.shortLimit != b.shortLimit || a.split != b.split
    || a.openLimit != b.openLimit

/-- Working state as at a RUN entry, sampling on (R51). -/
def SwitchIn.start (c : SwitchIn) : SwitchIn := { SwitchIn.powerOn c.cfg with sampleOn := true }

/-- The input restarts under its new configuration (R51). -/
def restartSwitch (k : Nat) (s : State) : State :=
  let c := s.switch k
  declareLoss (16 + k) false (reportWiringEnd .switch k c.wiring (putSwitch k c.start s))

/-- An accepted SWITCH_CONFIG on the front end's side (R47, R51): single roles move, the configuration is taken, a force
on a new PARKING_BRAKE switch is lifted, and the input restarts when its reading changes in RUN or AFTERRUN. -/
def applySwitchConfig (k : Nat) (c : SwitchCfg) (s : State) : State :=
  let old := (s.switch k).cfg
  let s1 := takeRole k c.role s
  let s2 := putSwitch k { s1.switch k with cfg := c } s1
  let s3 := if c.role = .parkingBrake then liftForce (16 + k) s2 else s2
  if s3.active && restartingChange old c then restartSwitch k s3 else s3

/-- Every input at a RUN entry (R51). -/
def switchesRunEntry (s : State) : State := s.setSwitches (tmap SwitchIn.start s.switches)

/-- One input at a SLEEP entry (R51). -/
def switchSleepEntry (k : Nat) (s : State) : State :=
  let c := s.switch k
  putSwitch k { c with sampleOn := false, refreshOn := false, wiring := c.wiring.endFault }
    (reportWiringEnd .switch k c.wiring s)

end Sys2Proof.Machine
end

