-- ==== Sys2Proof/Machine/Doors.lean ====
section
/-!
DEFINITION. The door supervisor (08): derivation of door states, implausibility and travel, door cycles, release
permission, the interlock, the stop request record, its requests, and its part in the power modes.
-/
namespace Sys2Proof.Machine

/-! ### Door codes (8.2) -/

/-- SECURED. -/
def codeSecured : Nat := 0
/-- CLOSED_UNLOCKED. -/
def codeClosedUnlocked : Nat := 1
/-- MOVING. -/
def codeMoving : Nat := 2
/-- OPEN. -/
def codeOpen : Nat := 3
/-- OBSTRUCTED. -/
def codeObstructed : Nat := 4
/-- EMERGENCY. -/
def codeEmergency : Nat := 5
/-- STUCK. -/
def codeStuck : Nat := 6
/-- UNKNOWN. -/
def codeUnknown : Nat := 7
/-- NOT_FITTED. -/
def codeNotFitted : Nat := 8

/-! ### A door's inputs (8.1) -/

/-- Replace door `d`. -/
def putDoor (d : Nat) (x : Door) (s : State) : State :=
  s.setDoors { s.doors with doors := tset s.doors.doors d x }

/-- An assigned input is active. -/
def State.inputActive (s : State) (k : Option Nat) : Bool := k.any fun k => (s.switchRec k).isActive

/-- An assigned input is inactive. -/
def State.inputInactive (s : State) (k : Option Nat) : Bool := k.any fun k => (s.switchRec k).isInactive

/-- What a door's inputs read: each field is false for an input that is not assigned; an unfitted door has none (R133). -/
structure DoorReadings where
  fitted : Bool
  closed : Bool
  closedOff : Bool
  openIn : Bool
  openOff : Bool
  lockedOk : Bool
  lockedOff : Bool
  edge : Bool
  emergency : Bool
  allValid : Bool
  hasOpen : Bool
  deriving DecidableEq, Repr

/-- The readings of a door with configuration `c`. -/
def State.readings (s : State) (c : DoorCfg) : DoorReadings :=
  if c.fitted then
    { fitted := true,
      closed := s.inputActive c.closed, closedOff := s.inputInactive c.closed,
      openIn := s.inputActive c.openSw, openOff := s.inputInactive c.openSw,
      lockedOk := c.locked.isNone || s.inputActive c.locked, lockedOff := s.inputInactive c.locked,
      edge := s.inputActive c.edge, emergency := s.inputActive c.emergency,
      allValid := (doorInputs c).all fun k => (s.switchRec k).isSettled,
      hasOpen := c.openSw.isSome }
  else ⟨false, false, false, false, false, false, false, false, false, true, false⟩

/-- CLOSED and OPEN are both VALID and not both active (R137). -/
def DoorReadings.agree (r : DoorReadings) : Bool :=
  (r.closed || r.closedOff) && (r.openIn || r.openOff) && !(r.closed && r.openIn)

/-- The door is between positions (R138). -/
def DoorReadings.between (r : DoorReadings) : Bool :=
  r.hasOpen && r.allValid && !r.emergency && r.closedOff && r.openOff

/-! ### Derivation (R135 to R138, R140) -/

/-- The implausibility timer and mark after a derivation (R137). -/
def Door.implausibleNext (x : Door) (r : DoorReadings) (now : Nat) : Door :=
  { x with
    implausTimer := if r.hasOpen && r.closed && r.openIn then some (x.implausTimer.getD now) else none,
    implausible := x.implausible && !r.agree }

/-- The stuck mark and the travel timer after a derivation (R138). -/
def Door.travelNext (x : Door) (r : DoorReadings) (now : Nat) : Door :=
  let stuck := x.stuck && !(r.closed || r.openIn)
  { x with stuck := stuck, travel := if r.between && !stuck then some (x.travel.getD now) else none }

/-- The first row of the table of 8.2 that holds. -/
def Door.derivedCode (x : Door) (r : DoorReadings) : Nat :=
  if !r.fitted then codeNotFitted
  else if r.emergency then codeEmergency
  else if !r.allValid || x.implausible then codeUnknown
  else if x.stuck then codeStuck
  else if r.edge && !(r.closed && r.lockedOk) && !r.openIn then codeObstructed
  else if r.closed && r.lockedOk then codeSecured
  else if r.closed && r.lockedOff then codeClosedUnlocked
  else if r.openIn then codeOpen
  else codeMoving

/-- The opened mark after a derivation that found `code` (R140). -/
def Door.openedNext (x : Door) (code : Nat) : Bool :=
  if code = codeOpen then true else x.opened && !(x.code == codeSecured && code != codeSecured)

/-- The derivation completes a cycle (R140). -/
def Door.completes (x : Door) (code : Nat) : Bool := code == codeSecured && x.openedNext code

/-- Cycles counted before the door counts item is queued (R140). -/
def cyclesPerCommit : Nat := 16

/-- Code, opened mark and cycle counts after a derivation that found `code` (R140). -/
def Door.derived (x : Door) (code : Nat) : Door :=
  if x.completes code then
    { x with code := code, opened := false, cycles := satSucc nat32Max x.cycles,
             sinceCommit := if cyclesPerCommit ≤ x.sinceCommit + 1 then 0 else x.sinceCommit + 1 }
  else { x with code := code, opened := x.openedNext code }

/-- The derivation queues the door counts item (R140). -/
def Door.commits (x : Door) (code : Nat) : Bool :=
  x.completes code && decide (cyclesPerCommit ≤ x.sinceCommit + 1)

/-- A door's fault has ended with its mark: it is reported inactive (R134, R137, R138). -/
def reportMarkEnd (d : Nat) (y : Symptom) (before after : Bool) (s : State) : State :=
  if before && !after then reportFault .door d y false s else s

/-- Number of fitted doors not SECURED, published in signal 44 (R136). -/
def State.unsecured (s : State) : Nat :=
  ((List.range 4).filter fun d => (s.door d).cfg.fitted && (s.door d).code != codeSecured).length

/-- A door's own part of its derivation: timers, marks, code, cycle count, its signal and its report (R135 to R140). -/
def deriveDoor (d : Nat) (s : State) : State :=
  let x := s.door d
  let r := s.readings x.cfg
  let x1 := (x.implausibleNext r s.clock).travelNext r s.clock
  let code := x1.derivedCode r
  let x2 := x1.derived code
  let s1 := putDoor d x2 s
  let s2 := reportMarkEnd d .stuck x.stuck x1.stuck (reportMarkEnd d .implausible x.implausible x1.implausible s1)
  let s3 := if x1.commits code then enqueue .doorCounts s2
            else if x1.completes code then touch .doorCounts s2 else s2
  let s4 := writeFresh (40 + d) code s3
  if x.code = code then s4 else offer .doorChange d (.door d code x2.cycles) s4

/-! ### Shared state: reports, permission, interlock (R143 to R147, R151) -/

/-- DOOR_CHANGE for the shared state (R151). -/
def offerShared (s : State) : State :=
  offer .doorChange 4 (.doorShared s.doors.permission s.doors.interlock s.doors.interlockFault) s

/-- Write signal 46: the command, fresh while the interlock fault mark is clear, else as a failure declaration (R147). -/
def writeInterlockSignal (s : State) : State :=
  if s.doors.interlockFault then declareFailure 46 (some s.doors.interlock.toNat) s
  else writeFresh 46 s.doors.interlock.toNat s

/-- The interlock command by R145: in RUN applied unless overridden or the secured run is complete; else released. -/
def State.interlockWanted (s : State) : Bool :=
  s.power.mode == .run && !s.roleActive .override && s.doors.run != .complete

/-- Decide the interlock command; a change goes to the outputs, signal 46 and the host (R145, R146). -/
def decideInterlock (s : State) : State :=
  let want := s.interlockWanted
  let s1 := s.setDoors { s.doors with overrideRead := s.roleActive .override }
  if want = s.doors.interlock then s1
  else offerShared (writeInterlockSignal (handRequests (s1.setDoors { s1.doors with interlock := want })))

/-- Release permission by R143. -/
def State.permissionWanted (s : State) : Bool :=
  let r := s.sig 12
  if r.quality = .valid then
    if r.value ≤ s.doors.policy.speed then true
    else if s.doors.policy.speed + s.doors.policy.hysteresis < r.value then false
    else s.doors.permission
  else s.roleActive .parkingBrake

/-- What the decision rests on (R143, R151). -/
def State.permissionBasis (s : State) : Basis := if (s.sig 12).quality = .valid then .speed else .brake

/-- Set the permission; a change goes to signal 45, the outputs and the host (R144). -/
def setPermission (want : Bool) (s : State) : State :=
  if want = s.doors.permission then s
  else offerShared (handRequests (writeFresh 45 want.toNat (s.setDoors { s.doors with permission := want })))

/-- Decide release permission afresh (R143, R144). -/
def decidePermission (s : State) : State :=
  setPermission s.permissionWanted (s.setDoors { s.doors with basis := s.permissionBasis })

/-- A driver state that marks the interlock faulty (R147). -/
def OutState.faulty (x : OutState) : Bool :=
  x == .shortWait || x == .openLoad || x == .supplyShort || x == .lockedOut

/-- Some INTERLOCK output is faulty (R147). -/
def State.interlockFaulty (s : State) : Bool :=
  s.outputs.outs.toList.any fun o => o.owner == .interlock && o.state.faulty

/-- Judge the interlock fault mark; a change writes signal 46 and offers DOOR_CHANGE (R147). -/
def judgeInterlockFault (s : State) : State :=
  let mark := s.interlockFaulty
  if mark = s.doors.interlockFault then s
  else
    let s1 := s.setDoors { s.doors with interlockFault := mark }
    offerShared (if s1.active then writeInterlockSignal s1 else s1)

/-! ### The secured run (R145) -/

/-- Every fitted door stands SECURED. -/
def State.allSecured (s : State) : Bool :=
  s.doors.doors.toList.all fun x => !x.cfg.fitted || x.code == codeSecured

/-- The release delay in ms. -/
def State.releaseDelay (s : State) : Nat := s.doors.policy.delay.toNat

/-- A run started at `t0` completes when it has lasted the delay (R145). -/
def runFrom (t0 now delay : Nat) : SecuredRun := if delay * 1000 ≤ now - t0 then .complete else .running t0

/-- The secured run after a derivation (R145). -/
def State.runNext (s : State) : SecuredRun :=
  if !s.allSecured then .stopped
  else match s.doors.run with
    | .stopped => runFrom s.clock s.clock s.releaseDelay
    | r => r

/-- A running secured run is judged against the release delay (R142, R145). -/
def State.runElapsed (s : State) : SecuredRun :=
  match s.doors.run with
  | .running t0 => runFrom t0 s.clock s.releaseDelay
  | r => r

/-- Replace the secured run. -/
def setRun (r : SecuredRun) (s : State) : State := s.setDoors { s.doors with run := r }

/-! ### Stop and assist requests (R149, R150) -/

/-- The value published in signal 47 (R148). -/
def StopRecord.value : StopRecord → Nat
  | .none => 0
  | .stop => 1
  | .assist => 2

/-- Set the stop request record: signal 47, the STOP_SIGN outputs and the report follow (R149, R150). -/
def setStop (r : StopRecord) (s : State) : State :=
  offer .stopRequestChange 0 (.stopRequest r)
    (handRequests (writeFresh 47 r.value (s.setDoors { s.doors with stop := r })))

/-- The record returns to NONE and the latch's chime request is withdrawn (R150). -/
def clearStop (s : State) : State :=
  if s.doors.stop = .none then s else hand (.chimeWithdraw .stopLatch) (setStop .none s)

/-- The record rises and the latch asks for its chime, when it has a pattern (R149). -/
def raiseStop (r : StopRecord) (pattern : Option Nat) (s : State) : State :=
  let s1 := setStop r s
  match pattern with
  | some p => hand (.chimeRequest .stopLatch p .once) s1
  | none => s1

/-- An active edge of a stop or assist button (R149). -/
def stopEdge (assist : Bool) (s : State) : State :=
  if !s.allSecured then s
  else match assist, s.doors.stop with
    | false, .none => raiseStop .stop s.doors.stopPattern s
    | true, .none => raiseStop .assist s.doors.assistPattern s
    | true, .stop => raiseStop .assist s.doors.assistPattern s
    | false, .stop => s
    | false, .assist => s
    | true, .assist => s

/-! ### What follows a derivation (R136) -/

/-- Signal 44, the secured run with the interlock, and the stop latch, after derivations; `opened` says that a fitted
door derived OPEN. -/
def followDerivation (opened : Bool) (s : State) : State :=
  let s1 := writeFresh 44 s.unsecured s
  let s2 := decideInterlock (setRun s1.runNext s1)
  if opened then clearStop s2 else s2

/-- A derivation of door `d` with all that follows it (R135, R136). -/
def derive (d : Nat) (s : State) : State :=
  let s1 := deriveDoor d s
  serve (followDerivation ((s1.door d).code == codeOpen) s1)

/-! ### Timers (R137, R138, R139, R145) -/

/-- IMPLAUSIBLE is set on a switch's record, if one is assigned. -/
def flagInput (k : Option Nat) (s : State) : State :=
  match k with
  | some k => setFlags (16 + k) { implausible := true } s
  | none => s

/-- The implausibility timer of door `d` expires, 300 ms after it started (R137). -/
def implausibilityExpiry (d : Nat) (s : State) : State :=
  let x := s.door d
  if s.active && lasted x.implausTimer s.clock 300 then
    let s1 := reportFault .door d .implausible true (putDoor d { x with implausible := true, implausTimer := none } s)
    derive d (flagInput x.cfg.openSw (flagInput x.cfg.closed (setFlags (40 + d) { implausible := true } s1)))
  else s

/-- The travel timer of door `d` expires at the travel limit (R138). -/
def travelExpiry (d : Nat) (s : State) : State :=
  let x := s.door d
  if s.active && lasted x.travel s.clock (x.cfg.travel * 1000) then
    let s1 := reportFault .door d .stuck true (putDoor d { x with stuck := true, travel := none } s)
    derive d (setFlags (40 + d) { implausible := true } s1)
  else s

/-- A wiring fault on an input of door `d`, fitted or not (DESIGN CHOICE, log 56), has been confirmed (R139). -/
def doorWiringFault (d : Nat) (s : State) : State := setFlags (40 + d) { implausible := true } s

/-- The secured run reaches the release delay (R145). -/
def securedRunComplete (s : State) : State :=
  if s.active && s.runElapsed != s.doors.run then decideInterlock (setRun s.runElapsed s) else s

/-- The supervisor's refresh timer expires: signals 40 to 47 from its present state (R136). -/
def doorRefresh (s : State) : State :=
  if s.active && s.doors.refreshOn then
    let s1 := forEach 4 (fun d acc => writeFresh (40 + d) (acc.door d).code acc) s
    let s2 := writeFresh 45 s1.doors.permission.toNat (writeFresh 44 s1.unsecured s1)
    writeFresh 47 s2.doors.stop.value (writeInterlockSignal s2)
  else s

/-! ### Requests (R133, R134, R142, R148, R151) -/

/-- Elapsed time of a running timer, in ms. -/
def State.elapsed (s : State) (t : Option Nat) : Option Nat := t.map s.msSince

/-- A door entry (R151). -/
def State.doorEntry (s : State) (d : Nat) : DoorEntry :=
  let x := s.door d
  { cfg := x.cfg, code := x.code, stuck := x.stuck, implausible := x.implausible, opened := x.opened,
    travel := s.elapsed x.travel, implausTimer := s.elapsed x.implausTimer, cycles := x.cycles,
    sinceCommit := x.sinceCommit }

/-- The secured run as DOOR_READ gives it (R151). -/
def State.runEntry (s : State) : RunEntry :=
  match s.doors.run with
  | .stopped => .stopped
  | .running t0 => .running (s.msSince t0)
  | .complete => .complete

/-- The supervisor's shared state (R151). -/
def State.doorShared (s : State) : DoorShared :=
  { policy := s.doors.policy, permission := s.doors.permission, basis := s.doors.basis,
    interlock := s.doors.interlock, run := s.runEntry, override := s.doors.overrideRead,
    interlockFault := s.doors.interlockFault, stop := s.doors.stop, stopPattern := s.doors.stopPattern,
    assistPattern := s.doors.assistPattern, committing := s.committing .doorCounts }

/-- Lift the forces on the switches a door's configuration names (R14, R133). -/
def liftDoorForces (c : DoorCfg) (s : State) : State :=
  (doorInputs c).foldl (fun (acc : State) (k : Nat) => liftForce (16 + k) acc) s

/-- A door as a reconfiguration leaves it before its derivation: timers stopped, marks clear, counts kept (R134). -/
def Door.reconfigured (x : Door) (c : DoorCfg) : Door :=
  { x with cfg := c, travel := none, implausTimer := none, stuck := false, implausible := false, opened := false }

/-- Report a door's standing faults inactive (R134, R153). -/
def reportDoorEnd (d : Nat) (x : Door) (s : State) : State :=
  reportMarkEnd d .stuck x.stuck false (reportMarkEnd d .implausible x.implausible false s)

/-- An accepted DOOR_CONFIG for door `d` (R133, R134). In SLEEP only the configuration changes. -/
def applyDoorConfig (d : Nat) (c : DoorCfg) (s : State) : State :=
  let x := s.door d
  if s.active then
    derive d (liftDoorForces c (reportDoorEnd d x (putDoor d (x.reconfigured c) s)))
  else liftDoorForces c (putDoor d { x with cfg := c } s)

/-- DOOR_CONFIG for a door (R133). -/
def doorConfig (d : Nat) (c : DoorCfg) (s : State) : Answer :=
  if doorValid d c s then
    let s1 := applyDoorConfig d (doorClamp c) s
    okAdjusted (doorClamp c != c) (.door (s1.doorEntry d)) s1
  else refuse .range s

/-- DOOR_CONFIG for the stop request latch (R148). -/
def doorConfigStopLatch (stop assist : Option Nat) (s : State) : Answer :=
  if stopPatternValid stop && stopPatternValid assist then
    ok .none (s.setDoors { s.doors with stopPattern := stop, assistPattern := assist })
  else refuse .range s

/-- DOOR_READ (R151). -/
def doorRead (s : State) : Answer := ok (.doors ((List.range 4).map s.doorEntry) s.doorShared) s

/-- STOP_REQUEST_CLEAR (R150). -/
def stopRequestClear (s : State) : Answer := ok .none (clearStop s)

/-- An accepted DOOR_POLICY: permission and a running secured run are judged afresh (R142). -/
def applyPolicy (p : DoorPolicy) (s : State) : State :=
  let s1 := s.setDoors { s.doors with policy := p }
  if s1.active then
    let s2 := decidePermission s1
    decideInterlock (setRun s2.runElapsed s2)
  else s1

/-- DOOR_POLICY (R142). -/
def doorPolicy (p : DoorPolicy) (s : State) : Answer :=
  okAdjusted (policyClamp p != p) (.policy (policyClamp p)) (applyPolicy (policyClamp p) s)

/-! ### Power modes (R152, R153) -/

/-- A door at a RUN entry, before it derives (R152). -/
def Door.runEntry (x : Door) : Door :=
  { x with travel := none, implausTimer := none, stuck := false, implausible := false }

/-- The supervisor at a RUN entry (R152). The permission basis is speed until the first decision (DESIGN CHOICE,
log 43). -/
def doorsRunEntry (s : State) : State :=
  let s1 := s.setDoors { s.doors with
    doors := tmap Door.runEntry s.doors.doors, run := .stopped, permission := false, basis := .speed,
    stop := .none, refreshOn := true }
  followDerivation false (forEach 4 deriveDoor (judgeInterlockFault s1))

/-- One door at a SLEEP entry (R153). -/
def doorSleepEntry (d : Nat) (s : State) : State := reportDoorEnd d (s.door d) (putDoor d (s.door d).runEntry s)

/-- The supervisor at a SLEEP entry (R153). A complete secured run is stopped with a running one (DESIGN CHOICE,
log 51). -/
def doorsSleepEntry (s : State) : State :=
  let s1 := forEach 4 doorSleepEntry s
  let s2 := s1.setDoors { s1.doors with
    permission := false, stop := .none, interlock := false, run := .stopped, refreshOn := false }
  let s3 := if s.doors.stop = .none then s2 else offer .stopRequestChange 0 (.stopRequest .none) s2
  if s.doors.permission || s.doors.interlock then offerShared s3 else s3

end Sys2Proof.Machine
end

