-- ==== Sys2Proof/Machine/Gauges.lean ====
section
/-!
DEFINITION. The gauge drivers (05): targets, the motion law, homing and sweep, parking, under-voltage, coil faults, tests
and requests.
-/
namespace Sys2Proof.Machine

/-- Gauge `g`. -/
def State.gauge (s : State) (g : Nat) : Gauge := tget s.gauges.gauges g

/-- A gauge with its park flag set that is still to park (R85). -/
def Gauge.toPark (x : Gauge) : Bool :=
  x.parks && (x.state == .parking || x.state == .homing || x.state == .unhomed)

/-- Some gauge is still to park (R85). -/
def State.someToPark (s : State) : Bool := s.gauges.gauges.toList.any Gauge.toPark

/-- The gauge drivers tell the power and store block whether some gauge is still to park, in AFTERRUN (R85, R181). -/
def tellParking (s : State) : State :=
  if s.power.mode = .afterrun then s.setPower { s.power with parkingPending := s.someToPark } else s

/-- Replace gauge `g`; a change of its state offers GAUGE_STATE and, in AFTERRUN, is told to the power and store block
(R85, R94). -/
def putGauge (g : Nat) (new : Gauge) (s : State) : State :=
  let s1 := s.setGauges { s.gauges with gauges := tset s.gauges.gauges g new }
  if (s.gauge g).state = new.state then s1
  else tellParking (offer .gaugeState g (.gauge g new.state new.p) s1)

/-! ### The target (R79, R80) -/

/-- The candidate target from the source as it stands (R79). -/
def State.candidate (s : State) (c : GaugeCfg) : Target :=
  match c.source with
  | none => ⟨0, false⟩
  | some n =>
    let r := s.sig n
    if r.quality = .failed then ⟨c.failPos, true⟩
    else ⟨(interp (c.curve.map fun p => (p.1, (p.2 : Int))) r.value).toNat, false⟩

/-- Distance between two positions. -/
def distance (a b : Nat) : Nat := if a ≤ b then b - a else a - b

/-- A candidate is adopted (R80). -/
def adopts (deadband : Nat) (tracked : Option Target) (cand : Target) : Bool :=
  match tracked with
  | none => true
  | some t => t.fail != cand.fail || decide (deadband ≤ distance t.pos cand.pos)

/-- The target update timer of gauge `g` expires (R79, R80). -/
def targetUpdate (g : Nat) (s : State) : State :=
  let x := s.gauge g
  let cand := s.candidate x.cfg
  if s.active && x.updateOn && adopts x.cfg.deadband x.tracked cand then
    putGauge g { x with tracked := some cand } s
  else s

/-! ### The motion law (R81) -/

/-- The motion target of the gauge's state, when it has one (5.3). -/
def Gauge.motionTarget (x : Gauge) : Option Nat :=
  match x.state with
  | .sweep => some (if x.sweepBack then 0 else x.cfg.pmax)
  | .tracking => x.tracked.map Target.pos
  | .test => x.testPos
  | .parking => some 0
  | .unhomed | .homing | .parked | .fault => none

/-- Position, speed and direction of a pointer. -/
structure Motion where
  p : Nat
  s : Nat
  up : Bool
  deriving DecidableEq, Repr

/-- The pointer is decelerating away from `τ` (R81, case 1). -/
def Motion.away (m : Motion) (τ : Nat) : Bool :=
  decide (0 < m.s) && (τ == m.p || (m.up && decide (τ < m.p)) || (!m.up && decide (m.p < τ)))

/-- The pointer moves `k` microsteps in its direction. -/
def Motion.move (m : Motion) (k : Nat) : Nat := if m.up then m.p + k else m.p - k

/-- The new speed toward a target `d` microsteps off (R81, case 2). -/
def nextSpeed (vmax s d : Nat) : Nat :=
  if vmax < s then s - 1
  else if s < vmax ∧ (s + 1) * (s + 2) / 2 ≤ d then s + 1
  else if s * (s + 1) / 2 ≤ d then s
  else s - 1

/-- One application of the motion law toward `τ` (R81). -/
def Motion.step (m : Motion) (vmax τ : Nat) : Motion :=
  if m.away τ then { m with s := m.s - 1, p := m.move (m.s - 1) }
  else
    let d := distance m.p τ
    let up := if τ = m.p then m.up else decide (m.p < τ)
    let k := min (nextSpeed vmax m.s d) d
    { p := (Motion.move { m with up := up } k), s := k, up := up }

/-- The gauge after one application of the motion law (R81). -/
def Gauge.apply (x : Gauge) (τ : Nat) : Gauge :=
  let m := Motion.step ⟨x.p, x.s, x.up⟩ x.cfg.vmax τ
  { x with p := m.p, s := m.s, up := m.up }

/-- The gauge rests at `pos`. -/
def Gauge.restsAt (x : Gauge) (pos : Nat) : Bool := x.p == pos && x.s == 0

/-- What follows a motion event in SWEEP, TRACKING, TEST or PARKING: the sweep turns or ends, a gauge without a source
rests PARKED, parking ends (R83, R84, R85). -/
def Gauge.arrive (x : Gauge) : Gauge :=
  match x.state with
  | .sweep =>
    if x.sweepBack then (if x.restsAt 0 then { x with state := .tracking } else x)
    else if x.restsAt x.cfg.pmax then { x with sweepBack := true } else x
  | .tracking => if x.cfg.source.isNone && x.restsAt 0 then { x with state := .parked } else x
  | .parking => if x.restsAt 0 then { x with state := .parked } else x
  | _ => x

/-! ### Homing (R82, R83) -/

/-- Overrun microsteps that complete a homing (R82). -/
def homingOverrun : Nat := 96

/-- The gauge in UNHOMED: no position, no motion, no test. -/
def Gauge.lose (x : Gauge) : Gauge := { x with state := .unhomed, p := 0, s := 0, testPos := none, freeze := none }

/-- The gauge as homing starts (R82). -/
def Gauge.home (x : Gauge) : Gauge :=
  { x with state := .homing, p := x.cfg.pmax, s := 0, overrun := 0, testPos := none, freeze := none,
           motionOn := true }

/-- Homing starts, or waits in UNHOMED while under-voltage is declared (R82). -/
def startHoming (g : Nat) (s : State) : State :=
  putGauge g (if s.supply.underLimit then (s.gauge g).lose else (s.gauge g).home) s

/-- State after homing (R83). In AFTERRUN the park flag alone decides, also for a gauge without a source, for which R84
names PARKED (DESIGN CHOICE, log 32). -/
def Gauge.afterHoming (x : Gauge) (mode : Mode) : GaugeState :=
  if mode = .afterrun then (if x.parks then .parked else .tracking)
  else if x.cfg.source.isNone then .parked
  else if x.cfg.sweep then .sweep
  else .tracking

/-- Homing is complete (R83): the coils are proven, and a COIL_OPEN not yet ended is reported inactive. -/
def completeHoming (g : Nat) (s : State) : State :=
  let x := s.gauge g
  let s1 := putGauge g { x with
    state := x.afterHoming s.power.mode, p := 0, s := 0, sweepBack := false, coilReported := false } s
  if x.coilReported then reportFault .gauge g .coilOpen false s1 else s1

/-- One motion event of a homing gauge (R82). It drives down at s = 0 and leaves the direction, which the spec gives only for
s > 0, as the motion law last set it (DESIGN CHOICE, log 30). -/
def homingStep (g : Nat) (s : State) : State :=
  let x := s.gauge g
  if x.p ≠ 0 then putGauge g { x with p := x.p - 2 } s
  else if homingOverrun ≤ x.overrun + 2 then completeHoming g (putGauge g { x with overrun := x.overrun + 2 } s)
  else putGauge g { x with overrun := x.overrun + 2 } s

/-! ### Motion events (R81, R88, R90) -/

/-- What the driver does with a gauge's coils (5.3). -/
inductive Coils where
  | notDriven | driven | holding | unpowered
  deriving DecidableEq, Repr, Inhabited

/-- The coils by the gauge's state, in RUN and AFTERRUN (the last column of the table of 5.3). -/
def GaugeState.coils : GaugeState → Coils
  | .unhomed | .fault => .notDriven
  | .homing | .sweep | .tracking | .test | .parking => .driven
  | .parked => .holding

/-- The coils of gauge `g`: by its state in RUN and AFTERRUN, unpowered in every other mode (5.3, R86, R95). -/
def State.coils (s : State) (g : Nat) : Coils := if s.active then (s.gauge g).state.coils else .unpowered

/-- The coils carry current: driven through the steps, or holding (R88, R90). -/
def Coils.energized (c : Coils) : Bool := c == .driven || c == .holding

/-- A coil is found open (R90). -/
def coilFault (g : Nat) (s : State) : State :=
  reportFault .gauge g .coilOpen true
    (putGauge g { s.gauge g with
      state := .fault, p := 0, s := 0, testPos := none, freeze := none, coilReported := true } s)

/-- The motion timer of gauge `g` expires; `coilOpen` is what the driver finds when it drives the coils (R81 to R85, R88,
R90). -/
def motionEvent (g : Nat) (coilOpen : Bool) (s : State) : State :=
  let x := s.gauge g
  if !x.motionOn || s.supply.underLimit || !(s.coils g).energized then s
  else if coilOpen then coilFault g s
  else match x.state with
    | .homing => homingStep g s
    | _ =>
      match x.motionTarget with
      | some τ => putGauge g (x.apply τ).arrive s
      | none => s

/-- The overrun count reaches 96: the motion event that reaches it (R83; log 8). -/
def homingComplete (g : Nat) (s : State) : State :=
  let x := s.gauge g
  if s.active && x.motionOn && !s.supply.underLimit && x.state == .homing && x.p == 0
      && decide (homingOverrun ≤ x.overrun + 2) then homingStep g s
  else s

/-! ### Under-voltage (R88, R89) -/

/-- Under-voltage is declared to gauge `g` (R88). -/
def gaugeUnderVoltage (g : Nat) (s : State) : State :=
  let x := s.gauge g
  if x.state.coils.energized then
    putGauge g { x with
      s := 0, freeze := some ⟨x.state == .homing || decide (0 < x.s), true⟩ } s
  else s

/-- The declaration ends: a frozen gauge resumes, one left UNHOMED homes (R82, R88, R89). -/
def gaugeUnderVoltageEnd (g : Nat) (s : State) : State :=
  let x := s.gauge g
  if x.state = .unhomed then startHoming g s else putGauge g { x with freeze := none } s

/-- The freeze timer of gauge `g` reaches 500 ms while under-voltage is declared (R89). -/
def freezeExpiry (g : Nat) (s : State) : State :=
  let x := s.gauge g
  match x.freeze with
  | some f => if s.active && s.supply.underLimit && f.moving && f.timerOn then putGauge g x.lose s else s
  | none => s

/-! ### Configuration and requests (R77, R78, R91 to R94) -/

/-- The gauge homes afresh because its Pmax changed: UNHOMED for that instant (R78). -/
def rehomeForPmax (g : Nat) (s : State) : State :=
  match (s.gauge g).state with
  | .unhomed | .fault => s
  | _ => startHoming g (putGauge g (s.gauge g).lose s)

/-- A gauge PARKED for want of a source, and given one, passes to TRACKING (R78). -/
def leaveParked (g : Nat) (oldSource : Option Nat) (s : State) : State :=
  let x := s.gauge g
  if x.state = .parked ∧ oldSource = none ∧ x.cfg.source ≠ none then putGauge g { x with state := .tracking } s else s

/-- An accepted GAUGE_CONFIG (R78). In SLEEP only the configuration changes. The tracked target is recomputed also when
Pmax changes, as the bound of R79 needs (DEDUCED, log 15). -/
def applyGaugeConfig (g : Nat) (c : GaugeCfg) (s : State) : State :=
  let x := s.gauge g
  let s1 := putGauge g { x with cfg := c } s
  if !s1.active then s1
  else
    let s2 := putGauge g { x with cfg := c, tracked := some (s.candidate c) } s1
    if x.cfg.pmax ≠ c.pmax then rehomeForPmax g s2 else leaveParked g x.cfg.source s2

/-- GAUGE_CONFIG (R77). -/
def gaugeConfig (g : Nat) (c : GaugeCfg) (s : State) : Answer :=
  if gaugeValid g c then
    let s1 := applyGaugeConfig g (gaugeClamp c) s
    okAdjusted (gaugeClamp c != c) (.gauge (gaugeClamp c) (s1.gauge g).state) s1
  else refuse .range s

/-- A GAUGE_READ entry (R94). While s is 0 it shows the direction that the motion law last set
(DESIGN CHOICE, log 30). -/
def State.gaugeEntry (s : State) (x : Gauge) : GaugeEntry :=
  { state := x.state, p := x.p, s := x.s, up := x.up, motionTarget := x.motionTarget, tracked := x.tracked,
    testPos := if x.state = .test then x.testPos else none,
    overrun := if x.state = .homing then some x.overrun else none,
    frozen := x.freeze.isSome && s.supply.underLimit }

/-- GAUGE_READ (R94). -/
def gaugeRead (s : State) : Answer := ok (.gauges (s.gauges.gauges.toList.map s.gaugeEntry)) s

/-- States in which a GAUGE_TEST SET is taken (R91). -/
def GaugeState.testable (x : GaugeState) : Bool := x == .tracking || x == .test || x == .parked

/-- GAUGE_TEST with the action SET, its checks in the order of R91. -/
def gaugeTestSet (g pos : Nat) (s : State) : Answer :=
  let x := s.gauge g
  if 5 < g then refuse .range s
  else if !s.gauges.service then refuse .conditions s
  else if x.cfg.pmax < pos then refuse .range s
  else if !x.state.testable then refuse .conditions s
  else ok .none (putGauge g { x with state := .test, testPos := some pos } s)

/-- A test ends by END or by the service end (R92). -/
def endTest (g : Nat) (s : State) : State :=
  let x := s.gauge g
  if x.state = .test then putGauge g { x with state := .tracking, testPos := none } s else s

/-- GAUGE_TEST with the action END (R91, R92). -/
def gaugeTestEnd (g : Nat) (s : State) : Answer := if 5 < g then refuse .range s else ok .none (endTest g s)

/-- GAUGE_REHOME (R93); RANGE comes before CONDITIONS (DESIGN CHOICE, log 14). -/
def gaugeRehome (g : Nat) (s : State) : Answer :=
  if 5 < g then refuse .range s
  else if !s.active then refuse .conditions s
  else ok .none (startHoming g s)

/-- The gauge drivers take an entry into or an end of the service mode; an end ends every test (R92, R167). -/
def gaugeServiceChange (on : Bool) (s : State) : State :=
  let s1 := s.setGauges { s.gauges with service := on }
  if on then s1 else forEach 6 endTest s1

/-! ### Power modes (R82, R85 to R87, R95) -/

/-- Gauge `g` at a RUN entry: target, test and freeze discarded, timers started, homing (R95). -/
def gaugeRunEntry (g : Nat) (s : State) : State :=
  let x := s.gauge g
  putGauge g (Gauge.home { x with tracked := none, updateOn := true }) s

/-- Gauge `g` at an AFTERRUN entry (R85). -/
def gaugeAfterrunEntry (g : Nat) (s : State) : State :=
  let x := { s.gauge g with parks := (s.gauge g).cfg.park }
  let parks := x.parks && (x.state == .tracking || x.state == .sweep || x.state == .test)
  putGauge g (if parks then { x with state := .parking, testPos := none } else x) s

/-- Gauge `g` when the ignition returns during AFTERRUN (R87); one in SWEEP or TEST, which R87 does not name, stays as
it is (DESIGN CHOICE, log 31). -/
def gaugeReturn (g : Nat) (s : State) : State :=
  let x := s.gauge g
  match x.state with
  | .parked => startHoming g s
  | .parking => putGauge g { x with state := .tracking } s
  | _ => s

/-- Gauge `g` at a SLEEP entry (R86). -/
def gaugeSleepEntry (g : Nat) (s : State) : State :=
  let x := { s.gauge g with tracked := none, motionOn := false, updateOn := false }
  match x.state with
  | .parked => putGauge g { x with p := 0, s := 0 } s
  | .fault => reportFault .gauge g .coilOpen false (putGauge g { x.lose with coilReported := false } s)
  | _ => putGauge g x.lose s

end Sys2Proof.Machine
end

