-- ==== Sys2Proof/Machine/Warnings.lean ====
section
/-!
DEFINITION. The warning unit (06): terms, suppression, the warning state machine, acknowledgement, the attention list,
telltales with prove-out and blink clock, its requests, and its part in the power modes.
-/
namespace Sys2Proof.Machine

/-- Warning `i`. -/
def State.warn (s : State) (i : Nat) : Warning := tget s.warnings.warnings i

/-- Replace warning `i`. -/
def putWarn (i : Nat) (w : Warning) (s : State) : State :=
  s.setWarnings { s.warnings with warnings := tset s.warnings.warnings i w }

/-- Replace the activation list. -/
def setActivation (xs : List Nat) (s : State) : State := s.setWarnings { s.warnings with activation := xs }

/-- A warning in this state is showing (6.1). -/
def WState.showing (x : WState) : Bool := x == .active || x == .offDelay || x == .latched

/-- A WARNING term sees this state as true (R100). -/
def WState.holds (x : WState) : Bool := x == .active || x == .latched

/-! ### Terms (R99, R100) -/

/-- A comparison on a VALID value, by the term's last result (the table of R99). -/
def compareNext (op : CmpOp) (c h v : Int) (last : Bool) : Bool :=
  match op with
  | .gt => if last then decide (c - h ≤ v) else decide (c < v)
  | .ge => if last then decide (c - h ≤ v) else decide (c ≤ v)
  | .lt => if last then decide (v ≤ c + h) else decide (v < c)
  | .le => if last then decide (v ≤ c + h) else decide (v ≤ c)
  | .eq => v == c
  | .ne => v != c

/-- A term's result by its bad-quality policy (R99). -/
def policyNext (p : Policy) (last : Bool) : Bool :=
  match p with
  | .beTrue => true
  | .beFalse => false
  | .last => last

/-- One term evaluated; `vis` gives each warning's state with the visibility of R98. -/
def termNext (s : State) (vis : Nat → WState) (t : Term) (last : Bool) : Bool :=
  match t with
  | .compare n op c h p =>
    if (s.sig n).quality = .valid then compareNext op c h (s.sig n).value last else policyNext p last
  | .quality n .notValid => (s.sig n).quality != .valid
  | .quality n .failed => (s.sig n).quality == .failed
  | .flagged n f => ((s.sig n).flags.and f).any
  | .warning j => (vis j).holds

/-- The results of a warning's terms, each from its own last result (R99, R100). -/
def termsNext (s : State) (vis : Nat → WState) : List Term → List Bool → List Bool
  | [], _ => []
  | t :: ts, last => termNext s vis t (last.headD false) :: termsNext s vis ts (last.drop 1)

/-- The condition from the results (R100). -/
def combined (c : Combine) (results : List Bool) : Bool :=
  match c with
  | .all => results.all id
  | .any => results.any id

/-- Results kept for four terms. -/
def padResults (results : List Bool) : List Bool := results ++ List.replicate (4 - results.length) false

/-! ### Suppression (R101, R102) -/

/-- Is the link effective: none when the walk stopped for want of a fifth link or at a repetition. `fuel` counts the links
still allowed. A repetition is looked for before the link's state (DEDUCED, log 16). -/
def walkChain (vis : Nat → WState) (suppressor : Nat → Option Nat) : Nat → List Nat → Option Nat → Option Bool
  | _, _, none => some false
  | 0, _, some _ => none
  | fuel + 1, seen, some j =>
    if seen.contains j then none
    else if !(vis j).showing then some false
    else (walkChain vis suppressor fuel (j :: seen) (suppressor j)).map (!·)

/-- Links a walk may use (R101). -/
def chainLinks : Nat := 4

/-! ### States (R103 to R106, R111, R112) -/

/-- Report the warning's EVENT code, when its log flag is on (R112). -/
def reportEvent (i : Nat) (c : WarningCfg) (active : Bool) (s : State) : State :=
  if c.log then reportFault .warning i .event active s else s

/-- The warning asks for its chime, when it has one (R111). -/
def askChime (i : Nat) (c : WarningCfg) (s : State) : State :=
  match c.chime with
  | some (p, m) => hand (.chimeRequest (.warning i) p m) s
  | none => s

/-- The warning's chime is withdrawn when its mode is one of those named (R111). -/
def withdrawChime (i : Nat) (c : WarningCfg) (modes : List ChimeMode) (s : State) : State :=
  match c.chime with
  | some (_, m) => if modes.contains m then hand (.chimeWithdraw (.warning i)) s else s
  | none => s

/-- Entry into INACTIVE (R104). -/
def enterInactive (i : Nat) (s : State) : State :=
  let w := s.warn i
  let s1 := putWarn i { w with state := .inactive, acked := false, delay := none, reminder := none } s
  let s2 := setActivation (s1.warnings.activation.erase i) s1
  reportEvent i w.cfg false (withdrawChime i w.cfg [.untilAck, .whileActive] s2)

/-- An activation (R105). -/
def activate (i : Nat) (s : State) : State :=
  let w := s.warn i
  let s1 := putWarn i { w with state := .active, acked := false, delay := none } s
  let s2 := setActivation (s1.warnings.activation ++ [i]) s1
  reportEvent i w.cfg true (askChime i w.cfg s2)

/-- The end of an off-delay (R104). -/
def endOffDelay (i : Nat) (s : State) : State :=
  let w := s.warn i
  if w.cfg.latching && !w.acked then
    withdrawChime i w.cfg [.whileActive] (putWarn i { w with state := .latched, delay := none } s)
  else enterInactive i s

/-- Scans a delay of `ms` lasts (R98). -/
def delayScans (ms : Nat) : Nat := ceilDiv ms 20

/-- One step of a warning's state under its condition after suppression (R103, R104). -/
def stepWarning (i : Nat) (cond : Bool) (s : State) : State :=
  let w := s.warn i
  let count := w.delay.getD 0
  match w.state, cond with
  | .inactive, false => s
  | .inactive, true =>
    if delayScans w.cfg.onDelay = 0 then activate i s
    else putWarn i { w with state := .onDelay, delay := some (delayScans w.cfg.onDelay) } s
  | .onDelay, false => enterInactive i s
  | .onDelay, true => if count ≤ 1 then activate i s else putWarn i { w with delay := some (count - 1) } s
  | .active, true => s
  | .active, false =>
    if delayScans w.cfg.offDelay = 0 then endOffDelay i s
    else putWarn i { w with state := .offDelay, delay := some (delayScans w.cfg.offDelay) } s
  | .offDelay, true => putWarn i { w with state := .active, delay := none } s
  | .offDelay, false => if count ≤ 1 then endOffDelay i s else putWarn i { w with delay := some (count - 1) } s
  | .latched, true => askChime i w.cfg (putWarn i { w with state := .active, acked := false } s)
  | .latched, false => s

/-- The reminder falls due (R106). -/
def remind (i : Nat) (s : State) : State :=
  let w := s.warn i
  askChime i w.cfg (putWarn i { w with acked := false, reminder := none } s)

/-- A scan that leaves the warning ACTIVE with its mark set takes one off its reminder count (R106). -/
def stepReminder (i : Nat) (s : State) : State :=
  let w := s.warn i
  match w.reminder with
  | none => s
  | some c =>
    if w.state = .active ∧ w.acked then
      (if c ≤ 1 then remind i s else putWarn i { w with reminder := some (c - 1) } s)
    else s

/-- WARNING_CHANGE for a warning as it stands, when state, mark or CONFIG_CHAIN differ from `old` (R116). -/
def offerWarning (i : Nat) (old : Warning) (s : State) : State :=
  let w := s.warn i
  if w.state = old.state ∧ w.acked = old.acked ∧ w.configChain = old.configChain then s
  else offer .warningChange i (.warning i w.state w.acked w.configChain) s

/-! ### Attention list and telltales (R110, R113) -/

/-- Warnings of one severity that are shown and not acknowledged, in activation order. -/
def WarnUnit.attentionOf (u : WarnUnit) (sev : Severity) : List Nat :=
  u.activation.filter fun i =>
    let w := tget u.warnings i
    w.cfg.severity == sev && w.state.showing && !w.acked

/-- The attention list (R110). -/
def WarnUnit.attentionNext (u : WarnUnit) : List Nat :=
  u.attentionOf .stop ++ u.attentionOf .caution ++ u.attentionOf .info

/-- Settle the attention list; a change of its head offers ATTENTION_CHANGE (R110). -/
def settleAttention (s : State) : State :=
  let xs := s.warnings.attentionNext
  let s1 := s.setWarnings { s.warnings with attention := xs }
  if xs.head? = s.warnings.attention.head? then s1
  else
    offer .attentionChange 0
      (.attention (xs.head?.map fun i => (i, (s.warn i).cfg.severity)) xs.length) s1

/-- Urgency of patterns (R113). -/
def urgency : Pattern → Nat
  | .off => 0
  | .steady => 1
  | .slow => 2
  | .fast => 3

/-- The more urgent of two patterns. -/
def moreUrgent (a b : Pattern) : Pattern := if urgency a < urgency b then b else a

/-- What a warning contributes to telltale `t` (R113). -/
def Warning.contributes (w : Warning) (t : Nat) : Pattern :=
  if w.cfg.telltale = some t ∧ w.state.showing then
    (if w.acked then (if w.state = .latched then .off else w.cfg.ackPattern) else w.cfg.unackPattern)
  else .off

/-- The merged pattern of telltale `t` (R113). -/
def WarnUnit.merged (u : WarnUnit) (t : Nat) : Pattern :=
  u.warnings.toList.foldl (fun acc w => moreUrgent acc (w.contributes t)) .off

/-- Settle telltale `t`; a change of either pattern (or `all`) offers TELLTALE_CHANGE (R113, R115). -/
def settleTelltale (all : Bool) (t : Nat) (s : State) : State :=
  let merged := s.warnings.merged t
  let running := s.warnings.proveOut.isSome
  let new : Telltale := ⟨merged, if running then .steady else merged⟩
  if all || tget s.warnings.telltales t != new then
    offer .telltaleChange t (.telltale t new.shown new.merged running)
      (s.setWarnings { s.warnings with telltales := tset s.warnings.telltales t new })
  else s

/-- Settle the head of the attention list and the telltales, and hand outputs their requests (R98, R113, R114). The
telltales offer their reports in the order T0 to T31, after the head's (DESIGN CHOICE, log 34). -/
def settleWarnings (all : Bool) (s : State) : State :=
  handRequests (forEach 32 (settleTelltale all) (settleAttention s))

/-! ### The scan (R98) -/

/-- The state of warning `j` as the visit of `i` sees it: this scan's below `i`, else as the scan began (R98). -/
def visible (before : Vector Warning 32) (i : Nat) (s : State) (j : Nat) : WState :=
  if j < i then (s.warn j).state else (tget before j).state

/-- The visit of warning `i` in a scan that began with `before` (R98). It offers one WARNING_CHANGE at most, also when it
brings two occasions for one (R116; DESIGN CHOICE, log 50). -/
def visit (before : Vector Warning 32) (i : Nat) (s : State) : State :=
  let w := s.warn i
  if !w.cfg.enable then s
  else
    let vis := visible before i s
    let results := termsNext s vis w.cfg.terms w.results
    let cond := combined w.cfg.combine results
    let walk := walkChain vis (fun j => (s.warn j).cfg.suppressor) chainLinks [i] w.cfg.suppressor
    let suppressed := walk == some true
    let s1 := putWarn i { w with
      results := padResults results, condition := cond, suppressed := suppressed,
      configChain := w.configChain || walk.isNone } s
    offerWarning i w (stepReminder i (stepWarning i (cond && !suppressed) s1))

/-- One scan (R98). -/
def scan (s : State) : State :=
  if s.active && s.warnings.scanOn then
    settleWarnings false (forEach 32 (visit s.warnings.warnings) s)
  else s

/-- A count of one warning comes to its end: that warning's step, its report, and the settling (log 8). -/
def endOfCount (i : Nat) (f : State → State) (s : State) : State :=
  settleWarnings false (offerWarning i (s.warn i) (f s))

/-- The on-delay count of warning `i` reaches 0 (R103; log 8). -/
def onDelayEnd (i : Nat) (s : State) : State :=
  let w := s.warn i
  if s.active && s.warnings.scanOn && w.state == .onDelay && decide (w.delay.getD 0 ≤ 1) then
    endOfCount i (activate i) s
  else s

/-- The off-delay count of warning `i` reaches 0 (R104; log 8). -/
def offDelayEnd (i : Nat) (s : State) : State :=
  let w := s.warn i
  if s.active && s.warnings.scanOn && w.state == .offDelay && decide (w.delay.getD 0 ≤ 1) then
    endOfCount i (endOffDelay i) s
  else s

/-- The reminder count of warning `i` reaches 0 (R106; log 8). -/
def reminderDue (i : Nat) (s : State) : State :=
  let w := s.warn i
  if s.active && s.warnings.scanOn && w.state == .active && w.acked
      && w.reminder.any (fun c => decide (c ≤ 1)) then endOfCount i (remind i) s
  else s

/-! ### Acknowledgement (R107 to R109) -/

/-- The reminder count an acknowledgement starts (R106). -/
def reminderStart (c : WarningCfg) : Option Nat := if c.reminder = 0 then none else some (50 * c.reminder)

/-- Acknowledge warning `i` by its state, with its report (R107); the settling follows. An UNTIL_ACK warning that leaves
LATCHED is acknowledged and enters INACTIVE at once, and sends one withdrawal (R111; DESIGN CHOICE, log 55). -/
def acknowledge (i : Nat) (s : State) : State :=
  let w := s.warn i
  match w.state with
  | .active | .offDelay =>
    offerWarning i w (withdrawChime i w.cfg [.untilAck]
      (putWarn i { w with acked := true, reminder := reminderStart w.cfg } s))
  | .latched => offerWarning i w (enterInactive i s)
  | .inactive | .onDelay => s

/-- An ACK edge (R108). -/
def ackHead (s : State) : State :=
  match s.warnings.attention.head? with
  | some i => settleWarnings false (acknowledge i s)
  | none => s

/-- WARNING_ACK HEAD (R108). -/
def warningAckHead (s : State) : Answer := ok (.acknowledged s.warnings.attention.head?) (ackHead s)

/-- WARNING_ACK INDEX (R109). -/
def warningAckIndex (i : Nat) (s : State) : Answer :=
  if 31 < i then refuse .range s
  else if s.warnings.attention.contains i then ok .none (settleWarnings false (acknowledge i s))
  else refuse .conditions s

/-- WARNING_ACK ALL (R109). -/
def warningAckAll (s : State) : Answer :=
  let xs := s.warnings.attention
  ok (.ackCount xs.length)
    (settleWarnings false (xs.foldl (fun (acc : State) (i : Nat) => acknowledge i acc) s))

/-! ### Configuration and reads (R96, R97, R115, R117) -/

/-- An accepted WARNING_CONFIG restarts the warning (R97). -/
def applyWarningConfig (i : Nat) (c : WarningCfg) (s : State) : State :=
  let w := s.warn i
  let s1 := withdrawChime i w.cfg [.once, .untilAck, .whileActive] s
  let s2 := if w.state.showing then reportEvent i w.cfg false s1 else s1
  let s3 := putWarn i (Warning.powerOn c) (setActivation (s2.warnings.activation.erase i) s2)
  settleWarnings false (offerWarning i w s3)

/-- WARNING_CONFIG (R96). -/
def warningConfig (i : Nat) (c : WarningCfg) (s : State) : Answer :=
  if warningValid i c then
    okAdjusted (warningClamp c != c) (.warningCfg (warningClamp c)) (applyWarningConfig i (warningClamp c) s)
  else refuse .range s

/-- Place of an element in a list, the first being 0 (DESIGN CHOICE, log 33). -/
def placeOf (i : Nat) : List Nat → Option Nat
  | [] => none
  | x :: xs => if x = i then some 0 else (placeOf i xs).map (· + 1)

/-- WARNING_READ (R117). -/
def warningRead (i : Nat) (s : State) : Answer :=
  if 31 < i then refuse .range s else ok (.warning (s.warn i) (placeOf i s.warnings.activation)) s

/-- Length of prove-out in ms (R115). -/
def proveOutMs : Nat := 3000

/-- Milliseconds of prove-out remaining (R117). -/
def State.proveOutLeft (s : State) : Nat :=
  match s.warnings.proveOut with
  | some t0 => proveOutMs - s.msSince t0
  | none => 0

/-- TELLTALE_READ (R117). -/
def telltaleRead (s : State) : Answer :=
  ok (.telltales s.warnings.telltales.toList s.proveOutLeft s.warnings.blink) s

/-- ATTENTION_READ (R117). -/
def attentionRead (s : State) : Answer :=
  ok (.attention s.warnings.attention.length
    (s.warnings.attention.map fun i => (i, (s.warn i).cfg.severity, (s.warn i).state))) s

/-- Prove-out starts, or starts again (R115). -/
def startProveOut (s : State) : State := s.setWarnings { s.warnings with proveOut := some s.clock }

/-- LAMP_TEST (R115). -/
def lampTest (s : State) : Answer :=
  if s.power.mode = .run then ok .none (settleWarnings false (startProveOut s)) else refuse .conditions s

/-- The prove-out timer expires (R115). -/
def proveOutExpiry (s : State) : State :=
  if s.active && s.warnings.proveOut.isSome then
    settleWarnings true (s.setWarnings { s.warnings with proveOut := none })
  else s

/-- The blink clock advances (R114). -/
def blink (s : State) : State :=
  if s.active && s.warnings.blinkOn then
    handRequests (s.setWarnings { s.warnings with blink := (s.warnings.blink + 1) % 8 })
  else s

/-! ### Power modes (R112, R118) -/

/-- The warning unit at a RUN entry (R112, R115, R118). -/
def warningsRunEntry (s : State) : State :=
  let s1 := s.setWarnings { s.warnings with
    warnings := tmap (fun w => Warning.powerOn w.cfg) s.warnings.warnings, activation := [], attention := [],
    blink := 0, blinkOn := true, scanOn := true, proveOut := some s.clock }
  settleWarnings false (forEach 32 (fun i acc => reportEvent i (acc.warn i).cfg false acc) s1)

/-- Warning `i` at a SLEEP entry (R118). One that is INACTIVE withdraws no chime request (R111; DESIGN CHOICE, log 53), and
any other withdraws its own once (DESIGN CHOICE, log 55). -/
def warningSleepEntry (i : Nat) (s : State) : State :=
  let w := s.warn i
  if w.state = .inactive then s
  else
    let s1 := putWarn i { w with state := .inactive, acked := false, delay := none, reminder := none } s
    let s2 := withdrawChime i w.cfg [.once, .untilAck, .whileActive] s1
    offerWarning i w (if w.state.showing then reportEvent i w.cfg false s2 else s2)

/-- The warning unit at a SLEEP entry (R118). -/
def warningsSleepEntry (s : State) : State :=
  let s1 := forEach 32 warningSleepEntry s
  let s2 := s1.setWarnings { s1.warnings with
    activation := [], blink := 0, blinkOn := false, scanOn := false, proveOut := none }
  forEach 32 (settleTelltale false) (settleAttention s2)

end Sys2Proof.Machine
end

