-- ==== Sys2Proof/Machine/ChimeUnit.lean ====
section
/-!
DEFINITION. The chime generator (07): the pending list, the arbiter and playback, the carrier, its requests, the tone
line's judgement, and its part in the power modes.
-/
namespace Sys2Proof.Machine

/-! ### The pending list (R121, R122) -/

/-- A record is playable: its carrier A is set (7.1). -/
def playable (p : ChimePattern) : Bool := carrierValid p.carrierA

/-- Group budget by mode and repeats; none is no limit (R121). -/
def budget (mode : ChimeMode) (repeats : Nat) : Option Nat :=
  match mode with
  | .once => some (if repeats = 0 then 1 else repeats)
  | .untilAck | .whileActive => if repeats = 0 then none else some repeats
  | .endless => none

/-- Pattern record `i`. -/
def Chime.pattern (c : Chime) (i : Nat) : ChimePattern := tget c.patterns i

/-- Priority of a request: that of the record it names, as it stands. -/
def Chime.priority (c : Chime) (r : ChimeReq) : Nat := (c.pattern r.pattern).priority

/-- Request `a` stands before `b` (R122). -/
def Chime.before (c : Chime) (a b : ChimeReq) : Bool :=
  decide (c.priority b < c.priority a) || (c.priority a == c.priority b && decide (a.arrival < b.arrival))

/-- A request in its place of an ordered list. -/
def Chime.insert (c : Chime) (r : ChimeReq) : List ChimeReq → List ChimeReq
  | [] => [r]
  | x :: xs => if c.before r x then r :: x :: xs else x :: c.insert r xs

/-- A list in the order of R122. -/
def Chime.sorted (c : Chime) (xs : List ChimeReq) : List ChimeReq := xs.foldr (fun r acc => c.insert r acc) []

/-- The pending list set, and its order settled (R122). -/
def Chime.setRequests (c : Chime) (xs : List ChimeReq) : Chime := { c with requests := c.sorted xs }

/-- The requester has a request pending. -/
def Chime.pends (c : Chime) (who : Requester) : Bool := c.requests.any (·.who == who)

/-! ### Playback (R124 to R127) -/

/-- Nothing sounds. The group and mark counts stay as the last playing left them (DESIGN CHOICE, log 36). -/
def Chime.toIdle (c : Chime) : Chime := { c with state := .idle, sounding := none, phase := none, level := false }

/-- Carrier of a mark (R125). -/
def markCarrier (p : ChimePattern) (markCount : Nat) : Carrier :=
  match p.mode with
  | .single => p.carrierA
  | .alternate => if markCount % 2 = 1 then p.carrierA else p.carrierB.getD p.carrierA

/-- A carrier cycle begins with its high half, at the volume in force (R120). -/
def Chime.beginCycle (c : Chime) : Chime := { c with level := true, ticks := c.carrier.high, drive := c.volume }

/-- A mark of the sounding request `x` begins, with a new carrier cycle (R120, R125). -/
def Chime.beginMark (c : Chime) (x : Sounding) : Chime :=
  Chime.beginCycle { c with
    state := .mark, carrier := markCarrier (c.pattern x.pattern) c.markCount, phase := some (c.pattern x.pattern).mark }

/-- The head starts from its first group and first mark; with an empty list the generator is IDLE (R124). -/
def Chime.startHead (c : Chime) : Chime :=
  match c.requests.head? with
  | none => c.toIdle
  | some r =>
    let x : Sounding := ⟨r.who, r.pattern, r.mode, false, false⟩
    Chime.beginMark { c with sounding := some x, group := 1, markCount := 1 } x

/-- The sounding request must give way: it is no longer the head, or is marked replaced or reconfigured (R125, R126). -/
def Chime.stale (c : Chime) (x : Sounding) : Bool :=
  x.replaced || x.reconfigured || !(c.requests.head?.any (·.who == x.who))

/-- A change of the list reaches the playback (R124, R126): in MARK the mark runs on, in SPACE or GAP a request that must
give way is followed by the head at once, in TAIL a head of higher priority starts, in IDLE any head. -/
def Chime.react (c : Chime) : Chime :=
  match c.state, c.sounding with
  | .mark, _ => c
  | .space, some x => if c.stale x then c.startHead else c
  | .gap, some x => if c.stale x then c.startHead else c
  | .space, none => c.startHead
  | .gap, none => c.startHead
  | .tail, _ =>
    if c.requests.head?.any (fun r => decide (c.tailPriority < c.priority r)) then c.startHead else c
  | .idle, _ => c.startHead

/-- The next mark of the sounding request, unless it must give way (R125, R126). -/
def Chime.nextMark (c : Chime) (x : Sounding) : Chime := if c.stale x then c.startHead else c.beginMark x

/-- The end of a gap (R125). -/
def Chime.endGap (c : Chime) (x : Sounding) : Chime :=
  Chime.nextMark { c with group := c.group + 1, markCount := 1 } x

/-- The end of a space (R125). -/
def Chime.endSpace (c : Chime) (x : Sounding) : Chime :=
  let p := c.pattern x.pattern
  if c.markCount < p.groupSize then Chime.nextMark { c with markCount := c.markCount + 1 } x
  else if p.gap = 0 then c.endGap x
  else { c with state := .gap, phase := some p.gap }

/-- The request is finished at this mark's end (R125, step 1). -/
def Chime.finished (c : Chime) (x : Sounding) : Bool :=
  !x.replaced && !x.reconfigured && c.markCount == (c.pattern x.pattern).groupSize
    && budget x.mode (c.pattern x.pattern).repeats == some c.group

/-- A finished request leaves the list, and its silence follows as a tail (R125 step 1, R126). The tail keeps the priority
that the pattern had then (DESIGN CHOICE, log 35). -/
def Chime.finish (c : Chime) (x : Sounding) : Chime :=
  let p := c.pattern x.pattern
  let c1 := Chime.toIdle (c.setRequests (c.requests.filter (·.who != x.who)))
  if p.space + p.gap = 0 then c1.startHead
  else Chime.react { c1 with state := .tail, phase := some (p.space + p.gap), tailPriority := p.priority }

/-- The mark expires (R125). -/
def Chime.markEnd (c : Chime) : Chime :=
  match c.state, c.sounding with
  | .mark, some x =>
    if c.finished x then c.finish x
    else if c.stale x then c.startHead
    else
      let c1 := { c with level := false }
      if (c.pattern x.pattern).space = 0 then c1.endSpace x
      else { c1 with state := .space, phase := some (c.pattern x.pattern).space }
  | _, _ => c

/-- The space expires (R125). -/
def Chime.spaceEnd (c : Chime) : Chime :=
  match c.state, c.sounding with
  | .space, some x => c.endSpace x
  | _, _ => c

/-- The gap expires (R125). -/
def Chime.gapEnd (c : Chime) : Chime :=
  match c.state, c.sounding with
  | .gap, some x => c.endGap x
  | _, _ => c

/-- The tail expires (R126). -/
def Chime.tailEnd (c : Chime) : Chime := if c.state = .tail then c.toIdle.startHead else c

/-- One tone tick of 4 µs in MARK (R120; DEDUCED, log 38): it counts off the half of the carrier cycle in progress; with the last
tick of the high half the output goes low for the carrier's low count, and with the last of the low half a new cycle
begins. -/
def Chime.toneTick (c : Chime) : Chime :=
  if c.state ≠ .mark then c
  else if 1 < c.ticks then { c with ticks := c.ticks - 1 }
  else if c.level then { c with level := false, ticks := c.carrier.low }
  else c.beginCycle

/-- Level of the tone output: the drive step of the high half, else low (R120). -/
def Chime.output (c : Chime) : Nat := if c.state = .mark ∧ c.level then c.drive else 0

/-! ### Requests and withdrawals (R121, R123, R127) -/

/-- A withdrawal (R123, R127). A sounding request is known by its requester, also when replaced (DEDUCED, log 17). -/
def Chime.withdraw (c : Chime) (who : Requester) : Chime :=
  if !c.pends who then c
  else
    let c1 := c.setRequests (c.requests.filter (·.who != who))
    if c.sounding.any (·.who == who) then c1.toIdle.startHead else c1.react

/-- The sounding request, marked replaced when its requester asks again (R127). -/
def markReplaced (who : Requester) (x : Sounding) : Sounding := if x.who = who then { x with replaced := true } else x

/-- A request in the place of the requester's earlier one, arrival order kept (R121). -/
def ChimeReq.replaceBy (who : Requester) (pattern : Nat) (mode : ChimeMode) (r : ChimeReq) : ChimeReq :=
  if r.who = who then { r with pattern := pattern, mode := mode } else r

/-- A request handed to the generator (R121). -/
def Chime.enter (c : Chime) (who : Requester) (pattern : Nat) (mode : ChimeMode) : Chime :=
  if !playable (c.pattern pattern) then c.withdraw who
  else if c.pends who then
    Chime.react (Chime.setRequests { c with sounding := c.sounding.map (markReplaced who) }
      (c.requests.map (ChimeReq.replaceBy who pattern mode)))
  else
    Chime.react (Chime.setRequests { c with nextArrival := c.nextArrival + 1 }
      (c.requests ++ [⟨who, pattern, mode, c.nextArrival⟩]))

/-- The sounding request, marked reconfigured when it names record `i` (R128). -/
def markReconfigured (i : Nat) (x : Sounding) : Sounding :=
  if x.pattern = i then { x with reconfigured := true } else x

/-- Record `i` set (R128). -/
def Chime.setPattern (c : Chime) (i : Nat) (p : ChimePattern) : Chime :=
  let c1 := { c with patterns := tset c.patterns i p, sounding := c.sounding.map (markReconfigured i) }
  Chime.react (c1.setRequests c1.requests)

/-- List and playback cleared, with the runs of the sense path (R132). -/
def Chime.silence (c : Chime) : Chime := { c.toIdle with requests := [], badRun := none, goodRun := none }

/-! ### Requests of the host (R119, R120, R129, R130) -/

/-- The chime status block (R130). -/
def Chime.status (c : Chime) : ChimeStatus :=
  { state := c.state, sounding := c.sounding.map fun x => (x.who, x.pattern), group := c.group,
    markCount := c.markCount, volume := c.volume, count := c.requests.length,
    entries := c.requests.map fun r => (r.who, r.pattern, r.mode, c.priority r) }

/-- A change of the generator. -/
def withChime (f : Chime → Chime) (s : State) : State := s.setChime (f s.chime)

/-- Answer with the status block after the effect (R130). -/
def okChime (adjusted : Bool) (f : Chime → Chime) (s : State) : Answer :=
  okAdjusted adjusted (.chime (f s.chime).status) (withChime f s)

/-- CHIME_PATTERN_SET (R119, R128). -/
def chimePatternSet (i : Nat) (p : ChimePattern) (s : State) : Answer :=
  if patternValid i p then okChime (patternClamp p != p) (fun c => c.setPattern i (patternClamp p)) s
  else refuse .range s

/-- CHIME_VOLUME (R120). -/
def chimeVolume (v : Nat) (s : State) : Answer := okChime (decide (3 < v)) (fun c => { c with volume := min 3 v }) s

/-- CHIME_PLAY (R129); its modes are ONCE and ENDLESS. RANGE comes before CONDITIONS (DESIGN CHOICE, log 14). -/
def chimePlay (i : Nat) (m : ChimeMode) (s : State) : Answer :=
  if 7 < i ∨ !(m == .once || m == .endless) then refuse .range s
  else if !playable (s.chime.pattern i) ∨ !s.active then refuse .conditions s
  else okChime false (fun c => c.enter .host i m) s

/-- CHIME_STOP (R129). -/
def chimeStop (s : State) : Answer := okChime false (fun c => c.withdraw .host) s

/-! ### The tone line (R131) -/

/-- Symptom of a tone fault. -/
def ToneFault.symptom : ToneFault → Symptom
  | .opened => .opened
  | .shorted => .shorted

/-- The kind of fault a reading shows, if any. -/
def readingFault : ToneReading → Option ToneFault
  | .loaded => none
  | .opened => some .opened
  | .shorted => some .shorted

/-- Mark time in a run that confirms or ends a fault, ms (R131). -/
def toneRunMs : Nat := 200

/-- A reading while no fault stands: the bad run, in ms of mark time (R131). -/
def toneBad (reading : ToneReading) (s : State) : State :=
  match readingFault reading with
  | none => s.setChime { s.chime with badRun := none }
  | some k =>
    let ms := match s.chime.badRun with
      | some (k0, t) => if k0 = k then t + 10 else 0
      | none => 0
    if toneRunMs ≤ ms then
      reportFault .tone 0 k.symptom true
        (s.setChime { s.chime with badRun := none, goodRun := none, fault := some k })
    else s.setChime { s.chime with badRun := some (k, ms) }

/-- A reading while fault `k` stands: the good run (R131). -/
def toneGood (k : ToneFault) (reading : ToneReading) (s : State) : State :=
  match readingFault reading with
  | some _ => s.setChime { s.chime with goodRun := none }
  | none =>
    let ms := match s.chime.goodRun with
      | some t => t + 10
      | none => 0
    if toneRunMs ≤ ms then
      reportFault .tone 0 k.symptom false
        (s.setChime { s.chime with badRun := none, goodRun := none, fault := none })
    else s.setChime { s.chime with goodRun := some ms }

/-- The 10 ms sense timer expires (R131): judged in MARK at volume 1 to 3. -/
def toneSense (reading : ToneReading) (s : State) : State :=
  if s.chime.state = .mark ∧ 1 ≤ s.chime.drive then
    match s.chime.fault with
    | none => toneBad reading s
    | some k => toneGood k reading s
  else s

/-! ### Power modes (R132) -/

/-- The generator at a SLEEP entry (R132). -/
def chimeSleepEntry (s : State) : State :=
  let s1 := match s.chime.fault with
    | some k => reportFault .tone 0 k.symptom false s
    | none => s
  s1.setChime { s1.chime.silence with fault := none }

end Sys2Proof.Machine
end

