-- ==== Sys2Proof/Machine/SupplyMonitor.lean ====
section
/-!
DEFINITION. The supply monitor (3.4): signal 48, the under-voltage and over-voltage conditions with what they hand on, and
its part in the power modes. The brown-out comparator is in PowerStore.
-/
namespace Sys2Proof.Machine

/-- Below this a low run runs, in mV (R53). -/
def lowMv : Nat := 16000
/-- Above this a high run runs, in mV (R53). -/
def highMv : Nat := 17000
/-- Length of both runs, in ms (R53). -/
def supplyRunMs : Nat := 100
/-- Above this over-voltage is declared, in mV (R54). -/
def cutMv : Nat := 32000
/-- Below this over-voltage ends, in mV (R54). -/
def uncutMv : Nat := 31000

/-- Under-voltage is declared and handed to the senders and the gauges (R45, R53, R88). -/
def declareUnderVoltage (s : State) : State :=
  let s1 := s.setSupply { s.supply with
    underLimit := true, lowRun := none, highRun := none, reportOn := true, reported := false }
  forEach 6 gaugeUnderVoltage (forEach 12 senderUnderVoltage s1)

/-- The standing UNDER_VOLTAGE report, if there is one, is reported inactive (R53). -/
def endSupplyReport (s : State) : State :=
  if s.supply.reported then reportFault .supply 0 .underVoltage false s else s

/-- Under-voltage ends, and the end is handed to the gauges; senders resume at their next expiry (R45, R53, R89). -/
def endUnderVoltage (s : State) : State :=
  let s1 := (endSupplyReport s).setSupply { s.supply with
    underLimit := false, lowRun := none, highRun := none, reportOn := false, reported := false }
  forEach 6 gaugeUnderVoltageEnd s1

/-- A measurement drives the under-voltage condition (R53). -/
def judgeUnderVoltage (mV : Nat) (s : State) : State :=
  if s.supply.underLimit then
    let run := runOf (decide (highMv < mV)) s.clock s.supply.highRun
    if lasted run s.clock supplyRunMs then endUnderVoltage s
    else s.setSupply { s.supply with highRun := run }
  else
    let run := runOf (decide (mV < lowMv)) s.clock s.supply.lowRun
    if lasted run s.clock supplyRunMs then declareUnderVoltage s
    else s.setSupply { s.supply with lowRun := run }

/-- A measurement drives the over-voltage condition (R54). -/
def judgeOverVoltage (mV : Nat) (s : State) : State :=
  if s.supply.overLimit then
    (if mV < uncutMv then uncutOutputs (s.setSupply { s.supply with overLimit := false }) else s)
  else if cutMv < mV then cutOutputs (s.setSupply { s.supply with overLimit := true })
  else s

/-- The 10 ms measurement (R52). -/
def supplyMeasure (mV : Nat) (s : State) : State :=
  if s.supply.measureOn then judgeOverVoltage mV (judgeUnderVoltage mV (writeFresh 48 mV s)) else s

/-- The report timer of a declaration reaches 10,000 ms (R53). -/
def underVoltageReport (s : State) : State :=
  if s.supply.underLimit && s.supply.reportOn then
    reportFault .supply 0 .underVoltage true
      (s.setSupply { s.supply with reportOn := false, reported := true })
  else s

/-- The monitor at a RUN entry: conditions clear, measuring (R52 to R54). -/
def supplyRunEntry (s : State) : State := s.setSupply { Supply.powerOn with measureOn := true }

/-- The monitor at a SLEEP entry (R52 to R54). -/
def supplySleepEntry (s : State) : State := (endSupplyReport s).setSupply Supply.powerOn

end Sys2Proof.Machine
end

