-- ==== Sys2Proof/Machine/FaultMemory.lean ====
section
/-!
DEFINITION. The fault memory and the service mode (09): taking fault reports, displacement, freeze frames, healing, reading,
clearing, the service mode with signal 51; and SWITCH_CONFIG with the decisions a change of role brings (R47, R144, R146,
R166).
-/
namespace Sys2Proof.Machine

/-- Records the memory holds at most (R157). -/
def recordLimit : Nat := 24

/-- Saturation of occurrences and healing counts (9.2). -/
def countMax : Nat := 255

/-- Replace the records. -/
def setRecords (xs : List FaultRec) (s : State) : State := s.setFaults { s.faults with records := xs }

/-- The status a record's report carries. -/
def FaultRec.status (r : FaultRec) : FaultStatus := if r.active then .active else .passive

/-- FAULT_CHANGE for a record with a status (R159). -/
def offerFault (r : FaultRec) (st : FaultStatus) (s : State) : State :=
  offer .faultChange r.code (.fault r.code st r.occurrences r.healing r.seq) s

/-- A change of a record: its report, and the item queued (R159). -/
def faultChanged (r : FaultRec) (st : FaultStatus) (s : State) : State := enqueue .faults (offerFault r st s)

/-- The record of a code. -/
def FaultMem.find (f : FaultMem) (code : Nat) : Option FaultRec := f.records.find? (·.code == code)

/-- The records with the one of the same code replaced. -/
def replaceRec (new : FaultRec) (xs : List FaultRec) : List FaultRec :=
  xs.map fun r => if r.code = new.code then new else r

/-- The records without the one of a code. -/
def eraseRec (code : Nat) (xs : List FaultRec) : List FaultRec := xs.filter (·.code != code)

/-- The freeze frame under the present freeze list (R158). -/
def State.frame (s : State) : Option (List FreezeEntry) :=
  if s.faults.freezeList.isEmpty then none
  else some (s.faults.freezeList.map fun n => ⟨n, (s.sig n).value, (s.sig n).quality⟩)

/-- The odometer total as a stamp takes it (R155). -/
def State.totalStamp (s : State) : Nat := digitsVal s.distance.record.total

/-- The engine hours as a stamp takes them (R155). -/
def State.hoursStamp (s : State) : Nat := digitsVal s.distance.record.hours

/-- A record as it is created (R156). -/
def State.newRecord (s : State) (code : Nat) : FaultRec :=
  { code := code, active := true, occurrences := 1, seq := s.faults.counter,
    firstTotal := s.totalStamp, firstHours := s.hoursStamp, lastTotal := s.totalStamp,
    lastHours := s.hoursStamp, firstCycle := s.power.cycles, healing := 0, freeze := s.frame }

/-- A record is created at the end of the creation order (R156). -/
def createRecord (code : Nat) (s : State) : State :=
  let r := s.newRecord code
  faultChanged r .active (s.setFaults { s.faults with
    records := s.faults.records ++ [r], counter := satSucc nat32Max s.faults.counter })

/-- A report that is not stored: MEMORY_FULL, NOT_STORED, and the item queued (R157, R159). -/
def notStored (code : Nat) (s : State) : State :=
  enqueue .faults (offer .faultChange code (.fault code .notStored 0 0 0)
    (s.setFaults { s.faults with full := true }))

/-- Record `a` is displaced before record `b` (R157). -/
def FaultRec.displacedBefore (a b : FaultRec) : Bool :=
  decide (b.healing < a.healing) ||
    (a.healing == b.healing && (decide (a.occurrences < b.occurrences) ||
      (a.occurrences == b.occurrences && decide (a.seq < b.seq))))

/-- The PASSIVE record to displace, if there is one (R157). -/
def displaced (xs : List FaultRec) : Option FaultRec :=
  (xs.filter fun r => !r.active).foldl
    (fun (best : Option FaultRec) (r : FaultRec) =>
      match best with
      | none => some r
      | some b => if r.displacedBefore b then some r else some b) none

/-- The sequence counter is exhausted (R156). -/
def FaultMem.exhausted (f : FaultMem) : Bool :=
  f.counter == nat32Max && f.records.any (·.seq == nat32Max)

/-- An active report on a record of its code (R155). -/
def reactivate (r : FaultRec) (s : State) : State :=
  if r.active then s
  else
    let r1 := { r with active := true, occurrences := satSucc countMax r.occurrences, healing := 0,
                       lastTotal := s.totalStamp, lastHours := s.hoursStamp }
    faultChanged r1 .active (setRecords (replaceRec r1 s.faults.records) s)

/-- An active report whose code has no record (R156, R157). -/
def storeNew (code : Nat) (s : State) : State :=
  if s.faults.exhausted then notStored code s
  else if s.faults.records.length < recordLimit then createRecord code s
  else match displaced s.faults.records with
    | none => notStored code s
    | some r => createRecord code (faultChanged r .erased (setRecords (eraseRec r.code s.faults.records) s))

/-- An active report (R155 to R157). -/
def faultActive (code : Nat) (s : State) : State :=
  match s.faults.find code with
  | some r => reactivate r s
  | none => storeNew code s

/-- An inactive report (R155). -/
def faultInactive (code : Nat) (s : State) : State :=
  match s.faults.find code with
  | none => s
  | some r =>
    if r.active then
      let r1 := { r with active := false }
      faultChanged r1 .passive (setRecords (replaceRec r1 s.faults.records) s)
    else s

/-! ### Healing (R160) -/

/-- A PASSIVE record at an ignition cycle end. -/
def FaultRec.healed (r : FaultRec) : FaultRec := { r with healing := satSucc countMax r.healing }

/-- One record at an ignition cycle end: an ACTIVE one stays, a PASSIVE one heals by one and is erased at the limit. -/
def healRecord (s : State) (r : FaultRec) : State :=
  if r.active then s
  else
    let r1 := r.healed
    if s.faults.healLimit ≤ r1.healing then
      faultChanged r1 .erased (setRecords (eraseRec r.code s.faults.records) s)
    else faultChanged r1 .passive (setRecords (replaceRec r1 s.faults.records) s)

/-- The ignition cycle end at the fault memory (R160). -/
def cycleEnd (s : State) : State := s.faults.records.foldl healRecord s

/-! ### Reading (R161) -/

/-- The bytes of a freeze entry (10.8). -/
def FreezeEntry.bytes (e : FreezeEntry) : List Byte :=
  BitVec.ofNat 8 e.signal :: qualityByte e.quality :: leBytes 4 e.value

/-- The bytes of a record (10.8). -/
def FaultRec.bytes (r : FaultRec) : List Byte :=
  leBytes 2 r.code ++ leBytes 1 r.active.toNat ++ leBytes 1 r.occurrences ++ leBytes 4 r.seq ++
    leBytes 4 r.firstTotal ++ leBytes 4 r.firstHours ++ leBytes 4 r.lastTotal ++ leBytes 4 r.lastHours ++
    leBytes 4 r.firstCycle ++ leBytes 1 r.healing ++ leBytes 1 (r.freeze.getD []).length ++
    (r.freeze.getD []).flatMap FreezeEntry.bytes

/-- The record whose sequence number is the smallest above the cursor. -/
def FaultMem.next (f : FaultMem) : Option FaultRec :=
  (f.records.filter fun r => decide (f.cursor < r.seq)).foldl
    (fun (best : Option FaultRec) (r : FaultRec) =>
      match best with
      | none => some r
      | some b => if r.seq < b.seq then some r else some b) none

/-- Records held and MEMORY_FULL, as every FAULT_NEXT reply carries them (10.8). -/
def FaultMem.countBytes (f : FaultMem) : List Byte := leBytes 1 f.records.length ++ leBytes 1 f.full.toNat

/-- FAULT_NEXT (R161). -/
def faultNext (s : State) : Answer :=
  match s.faults.next with
  | some r =>
    ok (.bytes (leBytes 1 1 ++ s.faults.countBytes ++ r.bytes)) (s.setFaults { s.faults with cursor := r.seq })
  | none => ok (.bytes (leBytes 1 0 ++ s.faults.countBytes)) s

/-- FAULT_REWIND (R161). -/
def faultRewind (s : State) : Answer :=
  ok (.faultCount s.faults.records.length s.faults.full) (s.setFaults { s.faults with cursor := 0 })

/-! ### Clearing and configuration (R158, R160, R162, R163) -/

/-- An ACTIVE record as FAULT_CLEAR restarts its history (R163). -/
def State.restartedRecord (s : State) (r : FaultRec) : FaultRec :=
  { r with occurrences := 1, firstTotal := s.totalStamp, firstHours := s.hoursStamp, lastTotal := s.totalStamp,
           lastHours := s.hoursStamp, firstCycle := s.power.cycles, healing := 0, freeze := s.frame }

/-- FAULT_CLEAR on one record (R163). -/
def clearRecord (s : State) (r : FaultRec) : State :=
  if r.active then
    faultChanged (s.restartedRecord r) .active (setRecords (replaceRec (s.restartedRecord r) s.faults.records) s)
  else faultChanged r .erased (setRecords (eraseRec r.code s.faults.records) s)

/-- The record is in the scope of a FAULT_CLEAR. -/
def inScope (sc : ClearScope) (r : FaultRec) : Bool :=
  match sc with
  | .all => true
  | .code c => r.code == c

/-- MEMORY_FULL is cleared, and with the scope ALL an empty memory starts its numbering and reading afresh (R163). -/
def clearMarks (sc : ClearScope) (s : State) : State :=
  let fresh := sc == .all && s.faults.records.isEmpty
  let f := { s.faults with
    full := false, counter := if fresh then 1 else s.faults.counter, cursor := if fresh then 0 else s.faults.cursor }
  let s1 := s.setFaults f
  if s.faults.full || f.counter != s.faults.counter then enqueue .faults s1 else s1

/-- FAULT_CLEAR (R162, R163). Outside the service mode an undefined scope or code is answered RANGE (DESIGN CHOICE,
log 14). The reports go out in the order of the records (DESIGN CHOICE, log 34). -/
def faultClear (sc : ClearScope) (s : State) : Answer :=
  let undefinedCode := match sc with
    | .all => false
    | .code c => !definedCode c
  if undefinedCode then refuse .range s
  else if !s.faults.service then refuse .conditions s
  else
    let acted := s.faults.records.filter (inScope sc)
    ok (.cleared (acted.filter fun r => !r.active).length (acted.filter FaultRec.active).length)
      (serve (clearMarks sc (acted.foldl clearRecord s)))

/-- FREEZE_LIST_SET (R158). -/
def freezeListSet (xs : List Nat) (s : State) : Answer :=
  if 4 < xs.length then refuse .badLength s
  else if xs.any fun n => decide (63 < n) then refuse .range s
  else ok (.freezeList xs) (s.setFaults { s.faults with freezeList := xs })

/-- FAULT_CONFIG (R160). -/
def faultConfig (limit : Nat) (s : State) : Answer :=
  okAdjusted (limit == 0) .none (s.setFaults { s.faults with healLimit := max 1 limit })

/-! ### The service mode (R165 to R167) -/

/-- The service mode changes (R167): signal 51, SERVICE_CHANGE, the hand-ons, and at an end the lifting of every signal
force (R14). -/
def setService (on : Bool) (s : State) : State :=
  if s.faults.service = on then s
  else
    let s1 := writeFresh 51 on.toNat (s.setFaults { s.faults with service := on })
    let s2 := hand (.gaugeService on) (hand (.outputService on) (offer .serviceChange 0 (.service on) s1))
    if on then s2 else liftAllForces s2

/-- The conditions of SERVICE_ENTER (R165). -/
def State.serviceAllowed (s : State) : Bool :=
  s.power.mode == .run && (s.sig 12).quality == .valid && decide ((s.sig 12).value ≤ 50) &&
    s.roleActive .parkingBrake

/-- SERVICE_ENTER (R165). The conditions are tested first: with the mode on and one failing the answer is CONDITIONS, and
the mode stays on (DESIGN CHOICE, log 44). -/
def serviceEnter (s : State) : Answer := if s.serviceAllowed then ok .none (setService true s) else refuse .conditions s

/-- SERVICE_EXIT (R166). -/
def serviceExit (s : State) : Answer := ok .none (setService false s)

/-- A P0 evaluation that wrote record 12 (R28, R166). -/
def serviceSpeedCheck (value : Int) (q : Quality) (s : State) : State :=
  if q = .valid ∧ 300 < value then setService false s else s

/-- A change of the PARKING_BRAKE record (R50, R166). -/
def serviceBrakeChange (applied : Bool) (s : State) : State := if applied then s else setService false s

/-- The 100 ms refresh of signal 51 (R167). -/
def serviceRefresh (s : State) : State :=
  if s.active && s.faults.refreshOn then writeFresh 51 s.faults.service.toNat s else s

/-- The fault memory at a RUN entry: the mode is off, the refresh timer starts, signal 51 is written 0 (R167). -/
def serviceRunEntry (s : State) : State :=
  writeFresh 51 0 (s.setFaults { s.faults with service := false, refreshOn := true })

/-- The refresh timer stops at a SLEEP entry (R167). -/
def serviceSleepEntry (s : State) : State := s.setFaults { s.faults with service := false, refreshOn := false }

/-! ### SWITCH_CONFIG (R47) -/

/-- A moved PARKING_BRAKE role re-decides permission and may end the service mode (R144, R166). -/
def brakeMoved (before after : Option Nat) (s : State) : State :=
  if before = after then s
  else
    let s1 := decidePermission s
    if s1.roleActive .parkingBrake then s1 else setService false s1

/-- A moved OVERRIDE role re-decides the interlock (R146). -/
def overrideMoved (before after : Option Nat) (s : State) : State :=
  if before = after then s else decideInterlock s

/-- An accepted SWITCH_CONFIG with the decisions its change of role brings, in RUN and AFTERRUN. -/
def takeSwitchConfig (k : Nat) (c : SwitchCfg) (s : State) : State :=
  let s1 := applySwitchConfig k c s
  if s1.active then
    overrideMoved (s.holderOf .override) (s1.holderOf .override)
      (brakeMoved (s.holderOf .parkingBrake) (s1.holderOf .parkingBrake) s1)
  else s1

/-- SWITCH_CONFIG (R47). -/
def switchConfig (k : Nat) (c : SwitchCfg) (s : State) : Answer :=
  if switchValid k c s then
    okAdjusted (switchClamp c != c) (.switch (switchClamp c)) (takeSwitchConfig k (switchClamp c) s)
  else refuse .range s

end Sys2Proof.Machine
end

