-- ==== Sys2Proof/Machine/HostLink.lean ====
section
/-!
DEFINITION. The host link (10): the receiver, the request buffer and the busy list, transmission, the line rate, the
report kinds enabled, IDENTIFY, STATUS and RESET.
-/
namespace Sys2Proof.Machine

/-- A change of the link. -/
def withLink (f : Link → Link) (s : State) : State := s.setLink (f s.link)

/-! ### Reception (R169, R170, R177) -/

/-- The lead byte of a frame. -/
def leadByte : Byte := 0xB7#8

/-- A frame in progress is dropped, and the receiver hunts (R169). -/
def Link.dropFrame (l : Link) : Link := { l with rx := none, badFrame := true }

/-- A drop of the frame in progress, if there is one (R169). -/
def Link.abortFrame (l : Link) : Link := if l.rx.isSome then l.dropFrame else l

/-- A BUSY reply for a frame that found no slot, or a frame dropped when the busy list is full too (R170). -/
def Link.overflow (l : Link) (kind tag : Byte) : Link :=
  if l.busy.length < slotCount then
    { l with busy := l.busy ++ [(kind, tag)], replies := l.replies ++ [⟨kind, tag, .busy, .none, .busy, none⟩] }
  else { l with badFrame := true }

/-- A received frame joins the buffer in stage WAITING (R170). -/
def Link.newSlot (l : Link) (kind tag : Byte) (body : List Byte) : Link :=
  { l with slots := l.slots ++ [⟨l.serial, kind, tag, body, .waiting⟩], serial := l.serial + 1 }

/-- A frame received while a RESET waits for its restart: it takes a free slot and is answered BUSY (R177; log 13). -/
def Link.busySlot (l : Link) (kind tag : Byte) (body : List Byte) : Link :=
  (l.newSlot kind tag body).answer ⟨l.serial, kind, tag, body, .waiting⟩ .busy .none none

/-- A received frame is handed to the request buffer (R170, R171, R177). -/
def Link.received (l : Link) (kind tag : Byte) (body : List Byte) : Link :=
  if slotCount ≤ l.slots.length then l.overflow kind tag
  else if l.resetPending then l.busySlot kind tag body
  else (l.newSlot kind tag body).handNext

/-- Smallest and largest length byte (R169). -/
def lengthOk (len : Nat) : Bool := decide (2 ≤ len) && decide (len ≤ 130)

/-- A frame, from its length byte to its check byte, is complete: received if the check is good, else dropped (R169). -/
def Link.complete (l : Link) (bs : List Byte) : Link :=
  let l1 := { l with rx := none }
  match bs.dropLast with
  | _ :: kind :: tag :: body =>
    if bs.getLast? = some (crc8 bs.dropLast) then l1.received kind tag body else l.dropFrame
  | _ => l.dropFrame

/-- One byte arrives with a good stop bit (R169). -/
def Link.byte (l : Link) (b : Byte) : Link :=
  match l.rx with
  | none => if b = leadByte then { l with rx := some [] } else l
  | some bs =>
    let bs1 := bs ++ [b]
    let len := (bs1.headD 0#8).toNat
    if !lengthOk len then l.dropFrame
    else if bs1.length = len + 2 then l.complete bs1
    else { l with rx := some bs1 }

/-- Bytes arrive in turn. -/
def Link.takeBytes (l : Link) (bs : List Byte) : Link := bs.foldl (fun (acc : Link) (b : Byte) => acc.byte b) l

/-! ### Transmission (R168, R170, R172, R174) -/

/-- The transmitter, when free, takes the oldest reply, else the head of the report queue (R172). -/
def Link.transmit (l : Link) : Link :=
  match l.tx, l.replies, l.reports with
  | none, _ :: _, _ => { l with tx := some .reply }
  | none, [], r :: rest => Link.entryFreed { l with tx := some (.report r), reports := rest }
  | _, _, _ => l

/-- A sent reply frees its slot, or the oldest entry of the busy list (R170). -/
def Link.free (l : Link) (src : ReplySource) : Link :=
  match src with
  | .slot n => { l with slots := l.slots.filter (·.serial != n) }
  | .busy => { l with busy := l.busy.drop 1 }

/-- The rate in force changes with the last byte of an accepted LINK_RATE's reply; a frame partly received is dropped
(R168, R169). Whether the request names the rate in force is judged then (DESIGN CHOICE, log 37). -/
def Link.switchRate (l : Link) (r : Option Rate) : Link :=
  match r with
  | some r => if r = l.rate then l else Link.abortFrame { l with rate := r }
  | none => l

/-- The last byte of the frame being sent has left the transmitter (R168, R170, R172). -/
def Link.sent (l : Link) : Link :=
  match l.tx, l.replies with
  | some .reply, x :: rest =>
    (Link.switchRate (Link.free { l with tx := none, replies := rest } x.source) x.rate).handNext
  | some (.report _), _ => { l with tx := none }
  | _, _ => l

/-! ### What goes on the line (R169, R171, 10.8) -/

/-- Value of a result code (10.3). -/
def Result.value : Result → Byte
  | .ok => 0#8 | .adjusted => 1#8 | .unknownKind => 2#8 | .badLength => 3#8 | .range => 4#8
  | .refusedProtected => 5#8 | .conditions => 6#8 | .busy => 7#8

/-- Code of a report kind (10.5). -/
def ReportKind.code (k : ReportKind) : Byte := BitVec.ofNat 8 (0x90 + k.place)

/-- A frame: lead, length, kind, tag, body, check (R169, 10.8). -/
def frameOf (kind tag : Byte) (body : List Byte) : List Byte :=
  let covered := BitVec.ofNat 8 (body.length + 2) :: kind :: tag :: body
  leadByte :: covered ++ [crc8 covered]

/-- The frame of a reply whose fields the spec lays out: those with the result code alone, SIGNAL_READ and FAULT_NEXT
(R171, 10.8). For the others the spec names the fields and gives no layout (log 20). -/
def Reply.frame (r : Reply) : Option (List Byte) :=
  match r.body with
  | .none => some (frameOf r.kind r.tag [r.result.value])
  | .bytes bs => some (frameOf r.kind r.tag (r.result.value :: bs))
  | _ => none

/-- The frame on the line while a reply is being sent (R172). -/
def State.lineFrame (s : State) : Option (List Byte) :=
  match s.link.tx, s.link.replies with
  | some .reply, r :: _ => r.frame
  | _, _ => none

/-! ### Requests of the link (R168, R171, R175 to R177) -/

/-- Kinds in the request table (10.7). -/
def knownKind (k : Byte) : Bool :=
  let n := k.toNat
  (decide (0x01 ≤ n) && decide (n ≤ 0x07)) || (decide (0x10 ≤ n) && decide (n ≤ 0x15)) ||
    (decide (0x20 ≤ n) && decide (n ≤ 0x22)) || (decide (0x28 ≤ n) && decide (n ≤ 0x2C)) ||
    (decide (0x30 ≤ n) && decide (n ≤ 0x33)) || (decide (0x40 ≤ n) && decide (n ≤ 0x43)) ||
    (decide (0x50 ≤ n) && decide (n ≤ 0x55)) || (decide (0x58 ≤ n) && decide (n ≤ 0x5B)) ||
    (decide (0x60 ≤ n) && decide (n ≤ 0x63)) || (decide (0x70 ≤ n) && decide (n ≤ 0x74)) ||
    (decide (0x78 ≤ n) && decide (n ≤ 0x79))

/-- The link answers a kind outside the table with UNKNOWN_KIND (R171). -/
def unknownKind (s : State) : State :=
  match s.link.inHand with
  | none => s
  | some x =>
    if knownKind x.kind then s
    else s.setLink ((s.link.answer x .unknownKind .none none).handNext)

/-- The revision letter as an ASCII capital (R176). -/
def revisionByte : Byte := BitVec.ofNat 8 (65 + Config.revisionLetter.val)

/-- IDENTIFY (R176). -/
def identify (s : State) : Answer := ok (.identify 0x0F3A 0x4D 0x0C24 revisionByte s.power.tag) s

/-- The fields of STATUS (R176). -/
def State.statusBody (s : State) : StatusBody :=
  { mode := s.power.mode, service := s.faults.service, badFrame := s.link.badFrame,
    reportsLost := s.link.reportsLost, lostCount := s.link.lostCount, writing := s.power.writing.isSome,
    configGood := s.power.configGood, cycles := s.power.cycles, cause := s.power.cause }

/-- STATUS: BAD_FRAME is shown and cleared (R176). -/
def status (s : State) : Answer := ok (.status s.statusBody) (withLink (fun l => { l with badFrame := false }) s)

/-- Marks of WARNING_CHANGE to SERVICE_CHANGE; the others are ignored (R175). -/
def reportMarks : BitVec 16 := 0x07FF#16

/-- REPORT_SET on the link: queued entries of a kind now disabled are removed, and the entries so freed act (R175). -/
def Link.enable (l : Link) (marks : BitVec 16) : Link :=
  let on := marks &&& reportMarks
  let kept := l.reports.filter fun r => r.kind == .reportsLost || on.getLsbD r.kind.place
  let l1 := { l with enabled := on, reports := kept }
  if kept.length < l.reports.length then l1.entryFreed else l1

/-- REPORT_SET (R175). -/
def reportSet (marks : BitVec 16) (s : State) : Answer :=
  ok (.enabled (marks &&& reportMarks)) (withLink (fun l => l.enable marks) s)

/-- LINK_RATE (R168). -/
def linkRate (code : Nat) (s : State) : Answer :=
  match rateOfCode code with
  | some r => ⟨withLink (fun l => { l with rateCfg := r }) s, .ok, .none, some r⟩
  | none => refuse .range s

/-- Every request still WAITING is answered BUSY, oldest first (R177). -/
def Link.refuseWaiting (l : Link) : Link :=
  (l.slots.filter (·.stage == .waiting)).foldl
    (fun (acc : Link) (x : Slot) => acc.answer x .busy .none none) l

/-- RESET (R177). -/
def reset (s : State) : Answer :=
  let s1 := withLink (fun l => { l.refuseWaiting with resetPending := true }) s
  ok .none (serve (enqueue .faults (enqueue .doorCounts (enqueue .counters s1))))

/-- The restart's conditions (R177). Something handed on and not yet taken is none of them, and is lost by the restart
(DESIGN CHOICE, log 49). -/
def State.restartReady (s : State) : Bool :=
  s.link.resetPending && s.link.replies.isEmpty && !s.link.slots.any (·.stage == .deferred) &&
    s.power.commit.isEmpty && s.power.writing.isNone && s.link.tx.isNone

end Sys2Proof.Machine
end

