-- ==== Sys2Proof/Machine/PowerStore.lean ====
section
/-!
DEFINITION. Power modes and the store (11): the start and its loads, the ignition filter, RUN entry, AFTERRUN entry,
return, the ignition cycle end and SLEEP entry, brown-out, store writes, CONFIG_SAVE and CONFIG_DEFAULTS.
-/
namespace Sys2Proof.Machine

/-- A change of the power and store block. -/
def withPower (f : Power → Power) (s : State) : State := s.setPower (f s.power)

/-- The power mode changes. -/
def setMode (m : Mode) (s : State) : State := withPower (fun p => { p with mode := m }) s

/-- POWER_CHANGE with the new mode and the cycle count (11). -/
def offerPower (s : State) : State := offer .powerChange 0 (.power s.power.mode s.power.cycles) s

/-! ### SLEEP entry and the ignition cycle end (R181) -/

/-- The SLEEP entry of every block. -/
def blocksSleepEntry (s : State) : State :=
  let s1 := repeaterSleepEntry (forEach 4 pulseSleepEntry (signalsSleepEntry s))
  let s2 := forEach 24 switchSleepEntry (forEach 12 senderSleepEntry s1)
  let s3 := warningsSleepEntry (forEach 6 gaugeSleepEntry (distanceSleepEntry (supplySleepEntry s2)))
  serviceSleepEntry (forEach 16 outputSleepEntry (doorsSleepEntry (chimeSleepEntry s3)))

/-- AFTERRUN completes (R181): the ignition cycle end goes to the fault memory, then SLEEP is entered. -/
def completeAfterrun (s : State) : State :=
  let s1 := cycleEnd (withPower (fun p => { p with afterrunOn := false, parkingPending := false }) s)
  serve (blocksSleepEntry (offerPower (setMode .sleep s1)))

/-- AFTERRUN completes at the first event after which nothing is left to park or to write (R181). -/
def settleAfterrun (s : State) : State :=
  if s.power.mode == .afterrun && !s.power.parkingPending && s.power.commit.isEmpty && s.power.writing.isNone then
    completeAfterrun s
  else s

/-- The AFTERRUN timer expires (R181). -/
def afterrunTimer (s : State) : State :=
  if s.power.mode == .afterrun && s.power.afterrunOn then completeAfterrun s else s

/-! ### RUN entry, AFTERRUN entry, return (R180 to R182) -/

/-- The RUN entry of every block (R180), in one event: the signal table's first (DEDUCED, log 28), and the outputs' before
the door supervisor's, so that the interlock fault mark is taken from outputs whose lockouts are lifted (DESIGN CHOICE,
log 40). -/
def blocksRunEntry (s : State) : State :=
  let s1 := supplyRunEntry (switchesRunEntry (sendersRunEntry (pulseRunEntry (signalsRunEntry s))))
  let s2 := forEach 6 gaugeRunEntry (distanceRunEntry (forEach 16 outputRunEntry s1))
  let s3 := withChime Chime.silence (warningsRunEntry s2)
  handRequests (serviceRunEntry (doorsRunEntry s3))

/-- A RUN entry (R180). A queued write begins at its end, also where the start before it queued the item (DESIGN CHOICE,
log 52). -/
def runEntry (s : State) : State :=
  let s1 := withPower (fun p => { p with mode := .run, cycles := satSucc nat32Max p.cycles }) s
  serve (offerPower (blocksRunEntry (enqueue .counters s1)))

/-- An AFTERRUN entry (R181). -/
def afterrunEntry (s : State) : State :=
  let s1 := withPower (fun p => { p with mode := .afterrun, afterrunOn := true, parkingPending := true }) s
  let s2 := tellParking (forEach 6 gaugeAfterrunEntry s1)
  let s3 := setService false (judgeGate (decideInterlock s2))
  serve (offerPower (enqueue .faults (enqueue .doorCounts (enqueue .counters s3))))

/-- The ignition returns during AFTERRUN (R182). -/
def ignitionReturn (s : State) : State :=
  let s1 := withPower (fun p => { p with mode := .run, afterrunOn := false, parkingPending := false }) s
  offerPower (judgeGate (decideInterlock (forEach 6 gaugeReturn s1)))

/-- The ignition line changes (R180): the filter runs while the line differs from the level taken. -/
def ignitionChange (on : Bool) (s : State) : State :=
  withPower (fun p => { p with ignitionPin := on, filterOn := p.mode != .off && on != p.ignitionTaken }) s

/-- The new level has held for 50 ms and is taken (R180). -/
def ignitionTake (s : State) : State :=
  if !(s.powered && s.power.filterOn) then s
  else
    let s1 := withPower (fun p => { p with ignitionTaken := p.ignitionPin, filterOn := false }) s
    match s.power.mode, s.power.ignitionPin with
    | .sleep, true => runEntry s1
    | .run, false => afterrunEntry s1
    | .afterrun, true => ignitionReturn s1
    | _, _ => s1

/-! ### The start (R179, R184) -/

/-- A record of the fault memory item as loaded: an ACTIVE record of another class than STORE becomes PASSIVE (R164). -/
def FaultRec.loaded (r : FaultRec) : FaultRec := if r.code / 4096 = 9 then r else { r with active := false }

/-- The fault memory item is loaded (R164). A record that changed offers its report and queues the item. -/
def loadFaults (s : State) : State :=
  if s.store.faultsGood then
    let im := s.store.faults
    let s1 := s.setFaults (FaultMem.powerOn { im with records := im.records.map FaultRec.loaded } [] factoryHealLimit)
    (im.records.filter fun r => r.loaded != r).foldl
      (fun (acc : State) (r : FaultRec) => faultChanged r.loaded .passive acc) s1
  else s.setFaults (FaultMem.powerOn FaultImage.empty [] factoryHealLimit)

/-- Every block under a configuration image, in its power-on state; the line rate in force is set apart (R178, R184). -/
def installConfig (im : ConfigImage) (good : Bool) (s : State) : State :=
  { s with
    signals := tmap SigRec.powerOn im.signals,
    pulse := timap (fun i c => PulseChan.powerOn c (s.chan i).pin) im.pulse,
    repeater := Repeater.powerOn im.kOut,
    senders := tmap Sender.powerOn im.senders,
    switches := tmap SwitchIn.powerOn im.switches,
    outputs := { outs := tmap Output.powerOn im.owners, service := false },
    gauges := { gauges := tmap Gauge.powerOn im.gauges, service := false },
    warnings := WarnUnit.powerOn im.warnings,
    chime := Chime.powerOn im.patterns im.volume,
    doors := DoorUnit.powerOn (tmap (fun c => Door.powerOn c 0) im.doors) im.policy im.stopPattern im.assistPattern,
    faults := { s.faults with freezeList := im.freezeList, healLimit := im.healLimit },
    link := { s.link with rateCfg := im.rate },
    power := { s.power with configGood := good, tag := im.tag } }

/-- The configuration image is loaded; a bad one gives the factory configuration and CONFIG_LOST (R184). -/
def loadConfig (s : State) : State :=
  if s.store.configGood then installConfig s.store.config true s
  else reportFault .store 0 .configLost true (installConfig ConfigImage.factory false s)

/-- The counter record is loaded; a bad one is lost (R74). -/
def loadCounters (s : State) : State :=
  if s.store.countersGood then
    withPower (fun p => { p with cycles := s.store.counters.cycles })
      (s.setDistance (DistanceUnit.powerOn s.store.counters.record))
  else
    enqueue .counters (reportFault .store 1 .countersLost true
      (withPower (fun p => { p with cycles := 0 }) (s.setDistance (DistanceUnit.powerOn Counters.lost))))

/-- The door cycle counts set. -/
def setCycles (counts : Vector Nat 4) (s : State) : State :=
  s.setDoors { s.doors with doors := timap (fun d x => { x with cycles := tget counts d }) s.doors.doors }

/-- The door counts item is loaded; a bad one gives zeros and a passing COUNTERS_LOST (R141). -/
def loadDoorCounts (s : State) : State :=
  if s.store.doorCountsGood then setCycles s.store.doorCounts s
  else
    enqueue .doorCounts (reportFault .store 2 .countersLost false (reportFault .store 2 .countersLost true
      (setCycles (Vector.replicate 4 0) s)))

/-- The four items in the order of R179. -/
def loadAll (s : State) : State := loadDoorCounts (loadCounters (loadConfig (loadFaults s)))

/-- After the loads the ignition line is read: a RUN entry, or SLEEP (R179). A write that the loads queued begins at the end
of the whole start (DESIGN CHOICE, log 52). -/
def readIgnition (s : State) : State :=
  let s1 := withPower (fun p => { p with ignitionTaken := p.ignitionPin, filterOn := false }) s
  if s.power.ignitionPin then runEntry s1 else serve (offerPower (setMode .sleep s1))

/-- The levels at the pulse inputs. -/
def State.pins (s : State) : Vector Bool 4 := tmap PulseChan.pin s.pulse

/-- The part as it stands at a start or under a brown-out: every block in its power-on state (R52, R179). What was handed on
and not yet taken is dropped with the rest (DESIGN CHOICE, log 49). -/
def State.held (s : State) (store : Store) : State :=
  State.unpowered store s.power.ignitionPin s.pins s.clock s.pending

/-- A start with a reset cause (R179). The line rate in force is the one given, else the loaded configuration's (R168). -/
def start (cause : ResetCause) (rate : Option Rate) (s : State) : State :=
  let s1 := loadAll (setMode .sleep (withPower (fun p => { p with cause := cause }) (s.held s.store)))
  readIgnition (withLink (fun l => { l with rate := rate.getD l.rateCfg }) s1)

/-- The supply rises out of OFF, or back above the brown-out threshold (R52, R179). -/
def partStart (fellThroughOff : Bool) (s : State) : State :=
  if s.powered then s
  else start (if s.power.brownOut && !fellThroughOff then .brownOut else .powerOn) none s

/-- The restart after a RESET (R177). -/
def resetRestart (s : State) : State :=
  if s.powered && s.restartReady then start .request (some s.link.rate) s else s

/-- The store with the check of one item bad. -/
def Store.spoil (st : Store) : Item → Store
  | .config => { st with configGood := false }
  | .counters => { st with countersGood := false }
  | .doorCounts => { st with doorCountsGood := false }
  | .faults => { st with faultsGood := false }

/-- The store a loss of supply leaves: a write in flight leaves its item with a bad check, and the other items, a queued
configuration image among them, keep theirs (R52, R183; for R185's queued image DESIGN CHOICE, log 46). -/
def State.storeAfterLoss (s : State) : Store :=
  match s.power.writing with
  | some w => s.store.spoil w.data.item
  | none => s.store

/-- The comparator finds the supply below 6,000 mV: every block is held in its power-on state (R52). -/
def brownOut (s : State) : State :=
  if s.powered then withPower (fun p => { p with brownOut := true }) (s.held s.storeAfterLoss) else s

/-! ### Store writes, CONFIG_SAVE, CONFIG_DEFAULTS (R183, R185, R186) -/

/-- The store with a completed write, its check good (R183). -/
def Store.write (st : Store) : WriteData → Store
  | .config im => { st with config := im, configGood := true }
  | .counters im => { st with counters := im, countersGood := true }
  | .doorCounts xs => { st with doorCounts := xs, doorCountsGood := true }
  | .faults im => { st with faults := im, faultsGood := true }

/-- A deferred CONFIG_SAVE is answered (R171, R185). -/
def answerSave (s : State) : State :=
  match s.power.saving with
  | none => s
  | some (serial, tag) =>
    let s1 := withPower (fun p => { p with saving := none }) s
    match s.link.slots.find? (·.serial == serial) with
    | some x => withLink (fun l => (l.answer x .ok (.tag tag) none).handNext) s1
    | none => s1

/-- The configuration image's write completes: the validity is GOOD, CONFIG_LOST is reported inactive (which changes
nothing unless it stands active), and the CONFIG_SAVE is answered (R185). -/
def configWritten (s : State) : State :=
  answerSave (reportFault .store 0 .configLost false (withPower (fun p => { p with configGood := true }) s))

/-- A store write completes, and the next head begins (R183). -/
def writeComplete (s : State) : State :=
  match s.power.writing with
  | none => s
  | some w =>
    let s1 := withPower (fun p => { p with writing := none }) (s.setStore (s.store.write w.data))
    settleAfterrun (serve (if w.data.item = .config then configWritten s1 else s1))

/-- Kind of CONFIG_SAVE (10.7). -/
def kindConfigSave : Byte := 0x05#8

/-- CONFIG_SAVE accepted: the tag is taken, the image queued, the slot DEFERRED (R171, R185). -/
def acceptSave (x : Slot) (tag : Tag32) (s : State) : State :=
  let s1 := withPower (fun p => { p with tag := tag, saving := some (x.serial, tag) }) s
  let s2 := withLink (fun l => Link.handNext { l with slots := setStage x.serial .deferred l.slots }) s1
  serve (enqueue .config s2)

/-- CONFIG_SAVE (R185): refused with BUSY while an earlier one awaits its completion. -/
def configSave (b : BodyForm) (tag : Tag32) (s : State) : State :=
  match s.link.inHand with
  | none => s
  | some x =>
    if x.kind = kindConfigSave ∧ b.lengthOk ∧ b.codesOk ∧ s.power.saving = none then acceptSave x tag s
    else handle kindConfigSave (checked b (refuse .busy)) s

/-- Factory configuration of the blocks that measure (R186). -/
def defaultsInputs (s : State) : State :=
  let s1 := forEach 64 (fun i acc => applySigConfig i (factorySig i) acc) s
  let s2 := forEach 4 (fun i acc => applyPulseConfig i (factoryPulse i) acc) s1
  let s3 := retarget (s2.setRepeater { s2.repeater with kOut := factoryKOut })
  let s4 := forEach 12 (fun i acc => applySenderConfig i factorySender acc) s3
  forEach 24 (fun k acc => takeSwitchConfig k factorySwitch acc) s4

/-- Factory configuration of the chime generator: the list is emptied and any sound ends, without a tail (R186). -/
def defaultsChime (s : State) : State :=
  s.setChime { s.chime.toIdle with
    patterns := Vector.replicate 8 factoryPattern, volume := factoryVolume, requests := [] }

/-- Factory configuration of the blocks that act (R186). The doors become unfitted before the factory policy is taken
(DESIGN CHOICE, log 45). -/
def defaultsOutputs (s : State) : State :=
  let s1 := forEach 16 (fun o acc => applyOwner o .none acc) s
  let s2 := forEach 6 (fun g acc => applyGaugeConfig g factoryGauge acc) s1
  let s3 := defaultsChime (forEach 32 (fun w acc => applyWarningConfig w factoryWarning acc) s2)
  let s4 := forEach 4 (fun d acc => applyDoorConfig d factoryDoor acc) s3
  applyPolicy factoryPolicy (s4.setDoors { s4.doors with stopPattern := none, assistPattern := none })

/-- CONFIG_DEFAULTS (R186), its parts in this order (DESIGN CHOICE, log 45). -/
def configDefaults (s : State) : Answer :=
  let s1 := defaultsOutputs (defaultsInputs s)
  let s2 := s1.setFaults { s1.faults with freezeList := [], healLimit := factoryHealLimit }
  let s3 := withLink (fun l => { l with rateCfg := factoryRate }) s2
  ok .none (withPower (fun p => { p with tag := 0#32 }) s3)

end Sys2Proof.Machine
end

