-- ==== Sys2Proof/Machine/CommandOps.lean ====
section
/-!
DEFINITION. What the commands' meanings share: their type, and the conditions under which an event occurs. An event that
cannot occur (its timer does not run, its block is not at work, no such request is in hand) changes nothing (log 9).
-/
namespace Sys2Proof.Machine

/-- What a command answers. -/
abbrev Outcome : Type := Host.Outcome State Fault Refusal

/-- An event that occurs with the supply present. -/
def whenPowered (f : State → State) (s : State) : State := if s.powered then f s else s

/-- An event that occurs in RUN and AFTERRUN. -/
def whenActive (f : State → State) (s : State) : State := if s.active then f s else s

/-- A hand-off is taken and acts (log 1). -/
def taking (h : Handoff) (f : State → State) (s : State) : State := if s.takes h then f (take h s) else s

/-- A hand-off is taken, and acts in RUN and AFTERRUN (log 1). -/
def takingActive (h : Handoff) (f : State → State) (s : State) : State := taking h (whenActive f) s

end Sys2Proof.Machine
end

