-- ==== Sys2Proof/Machine/PowerCommands.lean ====
section
/-!
DEFINITION. The commands of the power and store block (11): start, brown-out, ignition, AFTERRUN, the store, CONFIG_SAVE and
CONFIG_DEFAULTS.
-/
namespace Sys2Proof.Machine

/-- PART_START (R179). -/
def execPartStart (fellThroughOff : Bool) (t : Nat) (s : State) : Outcome :=
  .next (partStart fellThroughOff (advance t s))

/-- BROWN_OUT (R52). -/
def execBrownOut (s : State) : Outcome := .next (brownOut s)

/-- IGNITION_CHANGE (R180). -/
def execIgnitionChange (on : Bool) (t : Nat) (s : State) : Outcome := .next (ignitionChange on (advance t s))

/-- IGNITION_FILTER_EXPIRY (R180). -/
def execIgnitionFilterExpiry (t : Nat) (s : State) : Outcome := .next (ignitionTake (advance t s))

/-- AFTERRUN_TIMER_EXPIRY (R181). -/
def execAfterrunTimerExpiry (s : State) : Outcome := .next (afterrunTimer s)

/-- STORE_WRITE_COMPLETE (R183). -/
def execStoreWriteComplete (s : State) : Outcome := .next (writeComplete s)

/-- CONFIG_SAVE (R185). -/
def execConfigSave (b : BodyForm) (tag : Tag32) (s : State) : Outcome := .next (configSave b tag s)

/-- CONFIG_DEFAULTS (R186). -/
def execConfigDefaults (s : State) : Outcome := .next (settleAfterrun (handle 0x06#8 (bare configDefaults) s))

end Sys2Proof.Machine
end

