-- ==== Sys2Proof/Machine/LinkCommands.lean ====
section
/-!
DEFINITION. The commands of the host link (10).
-/
namespace Sys2Proof.Machine

/-- RECEIVED_FRAME (R169, R170). -/
def execReceivedFrame (bytes : List Byte) (t : Nat) (s : State) : Outcome :=
  .next (whenPowered (withLink fun l => l.takeBytes bytes) (advance t s))

/-- FRAME_GAP_TIMEOUT (R169). -/
def execFrameGapTimeout (s : State) : Outcome := .next (whenPowered (withLink Link.abortFrame) s)

/-- TRANSMIT_START (R172). -/
def execTransmitStart (s : State) : Outcome := .next (whenPowered (withLink Link.transmit) s)

/-- FRAME_SENT (R170). -/
def execFrameSent (s : State) : Outcome := .next (whenPowered (withLink Link.sent) s)

/-- RESET_RESTART (R177). -/
def execResetRestart (s : State) : Outcome := .next (resetRestart s)

/-- UNKNOWN_KIND (R171). -/
def execUnknownKind (s : State) : Outcome := .next (unknownKind s)

/-- IDENTIFY (R176). -/
def execIdentify (s : State) : Outcome := .next (handle 0x01#8 (bare identify) s)

/-- STATUS (R176). -/
def execStatus (s : State) : Outcome := .next (handle 0x02#8 (bare status) s)

/-- REPORT_SET (R175). -/
def execReportSet (b : BodyForm) (marks : BitVec 16) (s : State) : Outcome :=
  .next (handle 0x03#8 (checked b (reportSet marks)) s)

/-- RESET (R177). -/
def execReset (s : State) : Outcome := .next (handle 0x04#8 (bare reset) s)

/-- LINK_RATE (R168). -/
def execLinkRate (b : BodyForm) (code : Nat) (s : State) : Outcome :=
  .next (handle 0x07#8 (checked b (linkRate code)) s)

/-- BAD_STOP_BIT (R169). -/
def execBadStopBit (s : State) : Outcome := .next (whenPowered (withLink Link.abortFrame) s)

end Sys2Proof.Machine
end

