-- ==== Sys2Proof/Machine/SignalCommands.lean ====
section
/-!
DEFINITION. The commands of the signal table (01).
-/
namespace Sys2Proof.Machine

/-- SIGNAL_READ (R12). -/
def execSignalRead (s : State) : Outcome := .next (handle 0x10#8 (signalRead) s)

/-- SIGNAL_PUT (R10). -/
def execSignalPut (b : BodyForm) (signal : Nat) (value : Int) (quality : PutQuality) (s : State) : Outcome :=
  .next (handle 0x11#8 (checked b (signalPut signal value quality)) s)

/-- SIGNAL_CONFIG (R7). -/
def execSignalConfig (b : BodyForm) (signal : Nat) (cfg : SigCfg) (s : State) : Outcome :=
  .next (handle 0x12#8 (checked b (signalConfig signal cfg)) s)

/-- SIGNAL_CLEAR_FLAGS (R9). -/
def execSignalClearFlags (b : BodyForm) (signal : Option Nat) (flags : SigFlags) (s : State) : Outcome :=
  .next (handle 0x13#8 (checked b (signalClearFlags signal flags)) s)

/-- SIGNAL_FORCE (R13). -/
def execSignalForce (b : BodyForm) (signal : Nat) (value : Int) (s : State) : Outcome :=
  .next (handle 0x14#8 (checked b (signalForce signal value)) s)

/-- SIGNAL_RELEASE (R14). -/
def execSignalRelease (b : BodyForm) (signal : Nat) (s : State) : Outcome :=
  .next (handle 0x15#8 (checked b (signalRelease signal)) s)

/-- SIGNAL_AGE_TICK (R6). -/
def execSignalAgeTick (s : State) : Outcome := .next (whenActive ageTick s)

/-- HOLD_EXPIRY (R4). -/
def execHoldExpiry (signal : Fin 64) (s : State) : Outcome := .next (holdExpiry signal s)

/-- REFRESH_EXPIRY (R11). -/
def execRefreshExpiry (slot : Fin 12) (s : State) : Outcome := .next (refreshExpiry slot s)

end Sys2Proof.Machine
end

