-- ==== Sys2Proof/Machine/PulseCommands.lean ====
section
/-!
DEFINITION. The commands of the pulse capture unit and the speed repeater (02).
-/
namespace Sys2Proof.Machine

/-- PULSE_CONFIG (R18). -/
def execPulseConfig (b : BodyForm) (channel : Nat) (cfg : PulseCfg) (s : State) : Outcome :=
  .next (handle 0x20#8 (checked b (pulseConfig channel cfg)) s)

/-- PULSE_LOG_READ (R25). -/
def execPulseLogRead (b : BodyForm) (channel : Nat) (s : State) : Outcome :=
  .next (handle 0x21#8 (checked b (pulseLogRead channel)) s)

/-- REPEATER_CONFIG (R35). -/
def execRepeaterConfig (b : BodyForm) (kOut : Nat) (s : State) : Outcome :=
  .next (handle 0x22#8 (checked b (repeaterConfig kOut)) s)

/-- PULSE_TRANSITION (R21). -/
def execPulseTransition (channel : Fin 4) (high : Bool) (t : Nat) (s : State) : Outcome :=
  .next (pulseTransition channel high t (advance t s))

/-- QUALIFICATION_EXPIRY (R22). -/
def execQualificationExpiry (channel : Fin 4) (s : State) : Outcome := .next (qualificationExpiry channel s)

/-- WINDOW_EXPIRY (R26). -/
def execWindowExpiry (channel : Fin 4) (t : Nat) (s : State) : Outcome := .next (windowExpiry channel (advance t s))

/-- BIAS_CHECK_EXPIRY (R31). -/
def execBiasCheckExpiry (channel : Fin 4) (band : Band) (t : Nat) (s : State) : Outcome :=
  .next (biasCheck channel band (advance t s))

/-- REPEATER_TARGET (R35). -/
def execRepeaterTarget (s : State) : Outcome := .next (taking .repeater retarget s)

/-- REPEATER_HALF_CYCLE_END (R36). -/
def execRepeaterHalfCycleEnd (s : State) : Outcome := .next (s.setRepeater s.repeater.halfEnd)

end Sys2Proof.Machine
end

