-- ==== Sys2Proof/Machine/FrontEndCommands.lean ====
section
/-!
DEFINITION. The commands of the senders, the switches and the supply monitor (3.1 to 3.4).
-/
namespace Sys2Proof.Machine

/-- SENDER_CONFIG (R39). -/
def execSenderConfig (b : BodyForm) (channel : Nat) (cfg : SenderCfg) (s : State) : Outcome :=
  .next (handle 0x28#8 (checked b (senderConfig channel cfg)) s)

/-- SENDER_SAMPLE_EXPIRY (R40). -/
def execSenderSampleExpiry (channel : Fin 12) (raw : Nat) (t : Nat) (s : State) : Outcome :=
  .next (senderSample channel raw (advance t s))

/-- SWITCH_CONFIG (R47). -/
def execSwitchConfig (b : BodyForm) (input : Nat) (cfg : SwitchCfg) (s : State) : Outcome :=
  .next (handle 0x29#8 (checked b (switchConfig input cfg)) s)

/-- SWITCH_SAMPLE_EXPIRY (R48). -/
def execSwitchSampleExpiry (input : Fin 24) (high : Bool) (raw : Nat) (t : Nat) (s : State) : Outcome :=
  .next (switchSample input high raw (advance t s))

/-- SWITCH_REFRESH_EXPIRY (R48). -/
def execSwitchRefreshExpiry (input : Fin 24) (s : State) : Outcome := .next (switchRefresh input s)

/-- SUPPLY_MEASURE (R52). -/
def execSupplyMeasure (mV : Nat) (t : Nat) (s : State) : Outcome :=
  .next (settleAfterrun (supplyMeasure mV (advance t s)))

/-- UNDER_VOLTAGE_REPORT_EXPIRY (R53). -/
def execUnderVoltageReportExpiry (s : State) : Outcome := .next (underVoltageReport s)

end Sys2Proof.Machine
end

