-- ==== Sys2Proof/Machine/OutputCommands.lean ====
section
/-!
DEFINITION. The commands of the output drivers (3.5, 3.6).
-/
namespace Sys2Proof.Machine

/-- OUTPUT_CONFIG (R55). -/
def execOutputConfig (b : BodyForm) (output : Nat) (owner : Owner) (s : State) : Outcome :=
  .next (handle 0x2A#8 (checked b (outputConfig output owner)) s)

/-- OUTPUT_READ (R61). -/
def execOutputRead (s : State) : Outcome := .next (handle 0x2B#8 (bare outputRead) s)

/-- OUTPUT_FORCE with the action ON or OFF (R60). -/
def execOutputForce (b : BodyForm) (output : Nat) (on : Bool) (s : State) : Outcome :=
  .next (handle 0x2C#8 (checked b (outputForce output on)) s)

/-- OUTPUT_FORCE with the action RELEASE (R60). -/
def execOutputForceRelease (b : BodyForm) (output : Nat) (s : State) : Outcome :=
  .next (handle 0x2C#8 (checked b (outputForceRelease output)) s)

/-- OUTPUT_OVERCURRENT (R56). -/
def execOutputOvercurrent (output : Fin 16) (s : State) : Outcome := .next (overcurrent output s)

/-- OUTPUT_SENSE_EXPIRY (R57). -/
def execOutputSenseExpiry (output : Fin 16) (reading : LineReading) (t : Nat) (s : State) : Outcome :=
  .next (senseExpiry output reading (advance t s))

/-- OUTPUT_RETRY_EXPIRY (R56). -/
def execOutputRetryExpiry (output : Fin 16) (s : State) : Outcome := .next (retryExpiry output s)

/-- OUTPUT_PROVING_EXPIRY (R56). -/
def execOutputProvingExpiry (output : Fin 16) (s : State) : Outcome := .next (provingExpiry output s)

/-- OUTPUT_SERVICE_CHANGE (R60). -/
def execOutputServiceChange (on : Bool) (s : State) : Outcome :=
  .next (taking (.outputService on) (outputServiceChange on) s)

end Sys2Proof.Machine
end

