-- ==== Sys2Proof/Machine/DistanceCommands.lean ====
section
/-!
DEFINITION. The commands of the distance counters (04).
-/
namespace Sys2Proof.Machine

/-- DISTANCE_HANDOFF (R63). -/
def execDistanceHandoff (n : Nat) (s : State) : Outcome := .next (taking (.distance n) (distanceHandoff n) s)

/-- DISTANCE_READ (R75). -/
def execDistanceRead (s : State) : Outcome := .next (handle 0x30#8 (bare distanceRead) s)

/-- TRIP_RESET (R69). -/
def execTripReset (b : BodyForm) (trip : Trip) (s : State) : Outcome :=
  .next (handle 0x31#8 (checked b (tripReset trip)) s)

/-- ODOMETER_SET (R68). -/
def execOdometerSet (b : BodyForm) (tenths : Nat) (s : State) : Outcome :=
  .next (handle 0x32#8 (checked b (odometerSet tenths)) s)

/-- SERVICE_INTERVAL_SET (R70). -/
def execServiceIntervalSet (b : BodyForm) (km : Int) (s : State) : Outcome :=
  .next (handle 0x33#8 (checked b (serviceIntervalSet km)) s)

/-- SERVICE_DISTANCE_REFRESH (R66). -/
def execServiceDistanceRefresh (s : State) : Outcome := .next (serviceDistanceRefresh s)

/-- HOURS_TICK (R71). -/
def execHoursTick (s : State) : Outcome := .next (hoursTick s)

/-- HOURS_TENTH (R72). -/
def execHoursTenth (s : State) : Outcome := .next (hoursTenth s)

end Sys2Proof.Machine
end

