-- ==== Sys2Proof/Machine/GaugeCommands.lean ====
section
/-!
DEFINITION. The commands of the gauge drivers (05). A change of a gauge's state may complete AFTERRUN (R85, R181).
-/
namespace Sys2Proof.Machine

/-- GAUGE_CONFIG (R77). -/
def execGaugeConfig (b : BodyForm) (gauge : Nat) (cfg : GaugeCfg) (s : State) : Outcome :=
  .next (settleAfterrun (handle 0x40#8 (checked b (gaugeConfig gauge cfg)) s))

/-- GAUGE_READ (R94). -/
def execGaugeRead (s : State) : Outcome := .next (handle 0x41#8 (bare gaugeRead) s)

/-- GAUGE_TEST with the action SET (R91). -/
def execGaugeTestSet (b : BodyForm) (gauge : Nat) (position : Nat) (s : State) : Outcome :=
  .next (settleAfterrun (handle 0x42#8 (checked b (gaugeTestSet gauge position)) s))

/-- GAUGE_TEST with the action END (R92). -/
def execGaugeTestEnd (b : BodyForm) (gauge : Nat) (s : State) : Outcome :=
  .next (settleAfterrun (handle 0x42#8 (checked b (gaugeTestEnd gauge)) s))

/-- GAUGE_REHOME (R93). -/
def execGaugeRehome (b : BodyForm) (gauge : Nat) (s : State) : Outcome :=
  .next (settleAfterrun (handle 0x43#8 (checked b (gaugeRehome gauge)) s))

/-- TARGET_UPDATE_EXPIRY (R79). -/
def execTargetUpdateExpiry (gauge : Fin 6) (s : State) : Outcome := .next (targetUpdate gauge s)

/-- MOTION_EXPIRY (R81). -/
def execMotionExpiry (gauge : Fin 6) (coilOpen : Bool) (s : State) : Outcome :=
  .next (settleAfterrun (motionEvent gauge coilOpen s))

/-- HOMING_COMPLETE (R83). -/
def execHomingComplete (gauge : Fin 6) (s : State) : Outcome := .next (settleAfterrun (homingComplete gauge s))

/-- GAUGE_FREEZE_EXPIRY (R89). -/
def execGaugeFreezeExpiry (gauge : Fin 6) (s : State) : Outcome := .next (settleAfterrun (freezeExpiry gauge s))

/-- GAUGE_SERVICE_CHANGE (R92). -/
def execGaugeServiceChange (on : Bool) (s : State) : Outcome :=
  .next (settleAfterrun (taking (.gaugeService on) (gaugeServiceChange on) s))

end Sys2Proof.Machine
end

