-- ==== Sys2Proof/Machine/WarningCommands.lean ====
section
/-!
DEFINITION. The commands of the warning unit (06).
-/
namespace Sys2Proof.Machine

/-- WARNING_CONFIG (R96). -/
def execWarningConfig (b : BodyForm) (w : Nat) (cfg : WarningCfg) (s : State) : Outcome :=
  .next (handle 0x50#8 (checked b (warningConfig w cfg)) s)

/-- WARNING_READ (R117). -/
def execWarningRead (b : BodyForm) (w : Nat) (s : State) : Outcome :=
  .next (handle 0x51#8 (checked b (warningRead w)) s)

/-- WARNING_ACK with the action HEAD (R108). -/
def execWarningAckHead (b : BodyForm) (s : State) : Outcome := .next (handle 0x52#8 (checked b warningAckHead) s)

/-- WARNING_ACK with the action INDEX (R109). -/
def execWarningAckIndex (b : BodyForm) (w : Nat) (s : State) : Outcome :=
  .next (handle 0x52#8 (checked b (warningAckIndex w)) s)

/-- WARNING_ACK with the action ALL (R109). -/
def execWarningAckAll (b : BodyForm) (s : State) : Outcome := .next (handle 0x52#8 (checked b warningAckAll) s)

/-- ACK_EDGE (R108). -/
def execAckEdge (s : State) : Outcome := .next (takingActive .ackEdge ackHead s)

/-- TELLTALE_READ (R117). -/
def execTelltaleRead (s : State) : Outcome := .next (handle 0x53#8 (bare telltaleRead) s)

/-- LAMP_TEST (R115). -/
def execLampTest (s : State) : Outcome := .next (handle 0x54#8 (bare lampTest) s)

/-- ATTENTION_READ (R117). -/
def execAttentionRead (s : State) : Outcome := .next (handle 0x55#8 (bare attentionRead) s)

/-- WARNING_SCAN (R98). -/
def execWarningScan (s : State) : Outcome := .next (scan s)

/-- ON_DELAY_END (R103). -/
def execOnDelayEnd (w : Fin 32) (s : State) : Outcome := .next (onDelayEnd w s)

/-- OFF_DELAY_END (R104). -/
def execOffDelayEnd (w : Fin 32) (s : State) : Outcome := .next (offDelayEnd w s)

/-- REMINDER_DUE (R106). -/
def execReminderDue (w : Fin 32) (s : State) : Outcome := .next (reminderDue w s)

/-- BLINK_CLOCK_EXPIRY (R114). -/
def execBlinkClockExpiry (s : State) : Outcome := .next (blink s)

/-- PROVE_OUT_EXPIRY (R115). -/
def execProveOutExpiry (s : State) : Outcome := .next (proveOutExpiry s)

end Sys2Proof.Machine
end

