-- ==== Sys2Proof/Machine/ChimeCommands.lean ====
section
/-!
DEFINITION. The commands of the chime generator (07).
-/
namespace Sys2Proof.Machine

/-- CHIME_PATTERN_SET (R119). -/
def execChimePatternSet (b : BodyForm) (index : Nat) (pattern : ChimePattern) (s : State) : Outcome :=
  .next (handle 0x58#8 (checked b (chimePatternSet index pattern)) s)

/-- CHIME_PLAY (R129). -/
def execChimePlay (b : BodyForm) (index : Nat) (mode : ChimeMode) (s : State) : Outcome :=
  .next (handle 0x59#8 (checked b (chimePlay index mode)) s)

/-- CHIME_STOP (R129). -/
def execChimeStop (s : State) : Outcome := .next (handle 0x5A#8 (bare chimeStop) s)

/-- CHIME_VOLUME (R120). -/
def execChimeVolume (b : BodyForm) (volume : Nat) (s : State) : Outcome :=
  .next (handle 0x5B#8 (checked b (chimeVolume volume)) s)

/-- CHIME_REQUEST (R121). -/
def execChimeRequest (who : Requester) (pattern : Nat) (mode : ChimeMode) (s : State) : Outcome :=
  .next (takingActive (.chimeRequest who pattern mode) (withChime fun c => c.enter who pattern mode) s)

/-- CHIME_WITHDRAWAL (R123). -/
def execChimeWithdrawal (who : Requester) (s : State) : Outcome :=
  .next (taking (.chimeWithdraw who) (withChime fun c => c.withdraw who) s)

/-- MARK_EXPIRY (R125). -/
def execMarkExpiry (s : State) : Outcome := .next (withChime Chime.markEnd s)

/-- SPACE_EXPIRY (R125). -/
def execSpaceExpiry (s : State) : Outcome := .next (withChime Chime.spaceEnd s)

/-- GAP_EXPIRY (R125). -/
def execGapExpiry (s : State) : Outcome := .next (withChime Chime.gapEnd s)

/-- TAIL_EXPIRY (R126). -/
def execTailExpiry (s : State) : Outcome := .next (withChime Chime.tailEnd s)

/-- TONE_SENSE_EXPIRY (R131). -/
def execToneSenseExpiry (reading : ToneReading) (s : State) : Outcome := .next (toneSense reading s)

/-- TONE_TICK (R120). -/
def execToneTick (s : State) : Outcome := .next (withChime Chime.toneTick s)

end Sys2Proof.Machine
end

