-- ==== Sys2Proof/Machine/DoorCommands.lean ====
section
/-!
DEFINITION. The commands of the door supervisor (08).
-/
namespace Sys2Proof.Machine

/-- DOOR_CONFIG for a door (R133). -/
def execDoorConfig (b : BodyForm) (target : Nat) (cfg : DoorCfg) (s : State) : Outcome :=
  .next (handle 0x60#8 (checked b (doorConfig target cfg)) s)

/-- DOOR_CONFIG for the stop request latch (R148). -/
def execDoorConfigStopLatch (b : BodyForm) (stop assist : Option Nat) (s : State) : Outcome :=
  .next (handle 0x60#8 (checked b (doorConfigStopLatch stop assist)) s)

/-- DOOR_READ (R151). -/
def execDoorRead (s : State) : Outcome := .next (handle 0x61#8 (bare doorRead) s)

/-- STOP_REQUEST_CLEAR (R150). -/
def execStopRequestClear (s : State) : Outcome := .next (handle 0x62#8 (bare stopRequestClear) s)

/-- DOOR_POLICY (R142). -/
def execDoorPolicy (b : BodyForm) (policy : DoorPolicy) (s : State) : Outcome :=
  .next (handle 0x63#8 (checked b (doorPolicy policy)) s)

/-- DOOR_INPUT_WRITE (R135). -/
def execDoorInputWrite (door : Fin 4) (s : State) : Outcome := .next (takingActive (.doorInput door) (derive door) s)

/-- DOOR_IMPLAUSIBILITY_EXPIRY (R137). -/
def execDoorImplausibilityExpiry (door : Fin 4) (t : Nat) (s : State) : Outcome :=
  .next (implausibilityExpiry door (advance t s))

/-- DOOR_TRAVEL_EXPIRY (R138). -/
def execDoorTravelExpiry (door : Fin 4) (t : Nat) (s : State) : Outcome := .next (travelExpiry door (advance t s))

/-- DOOR_WIRING_FAULT (R139). Taken in SLEEP it sets no flag (DESIGN CHOICE, log 57). -/
def execDoorWiringFault (door : Fin 4) (s : State) : Outcome :=
  .next (takingActive (.doorWiring door) (doorWiringFault door) s)

/-- DOOR_REFRESH_EXPIRY (R136). -/
def execDoorRefreshExpiry (s : State) : Outcome := .next (doorRefresh s)

/-- RELEASE_REDECIDE (R143). -/
def execReleaseRedecide (s : State) : Outcome := .next (takingActive .release decidePermission s)

/-- SECURED_RUN_COMPLETE (R145). -/
def execSecuredRunComplete (t : Nat) (s : State) : Outcome := .next (securedRunComplete (advance t s))

/-- OVERRIDE_CHANGE (R146). -/
def execOverrideChange (s : State) : Outcome := .next (takingActive .overrideChange decideInterlock s)

/-- INTERLOCK_OUTPUT_CHANGE (R147). -/
def execInterlockOutputChange (s : State) : Outcome := .next (taking .interlockOutput judgeInterlockFault s)

/-- STOP_REQUEST_EDGE (R149). -/
def execStopRequestEdge (assist : Bool) (s : State) : Outcome :=
  .next (takingActive (.stopEdge assist) (stopEdge assist) s)

end Sys2Proof.Machine
end

