-- ==== Sys2Proof/Machine/FaultCommands.lean ====
section
/-!
DEFINITION. The commands of the fault memory and the service mode (09). Fault reports are taken in every power mode (R155).
-/
namespace Sys2Proof.Machine

/-- FAULT_REPORT_ACTIVE (R156). -/
def execFaultReportActive (code : Nat) (s : State) : Outcome :=
  .next (whenPowered (fun s => serve (faultActive code (take (.faultActive code) s))) s)

/-- FAULT_REPORT_INACTIVE (R155). -/
def execFaultReportInactive (code : Nat) (s : State) : Outcome :=
  .next (whenPowered (fun s => serve (faultInactive code (take (.faultInactive code) s))) s)

/-- FAULT_NEXT (R161). -/
def execFaultNext (s : State) : Outcome := .next (handle 0x70#8 (bare faultNext) s)

/-- FAULT_REWIND (R161). -/
def execFaultRewind (s : State) : Outcome := .next (handle 0x71#8 (bare faultRewind) s)

/-- FAULT_CLEAR (R162, R163). -/
def execFaultClear (b : BodyForm) (scope : ClearScope) (s : State) : Outcome :=
  .next (handle 0x72#8 (checked b (faultClear scope)) s)

/-- FREEZE_LIST_SET (R158). -/
def execFreezeListSet (b : BodyForm) (signals : List Nat) (s : State) : Outcome :=
  .next (handle 0x73#8 (checked b (freezeListSet signals)) s)

/-- FAULT_CONFIG (R160). -/
def execFaultConfig (b : BodyForm) (limit : Nat) (s : State) : Outcome :=
  .next (handle 0x74#8 (checked b (faultConfig limit)) s)

/-- SERVICE_ENTER (R165). -/
def execServiceEnter (s : State) : Outcome := .next (handle 0x78#8 (bare serviceEnter) s)

/-- SERVICE_EXIT (R166). -/
def execServiceExit (s : State) : Outcome := .next (handle 0x79#8 (bare serviceExit) s)

/-- SERVICE_SPEED_CHECK (R166). -/
def execServiceSpeedCheck (value : Int) (quality : Quality) (s : State) : Outcome :=
  .next (taking (.speedCheck value quality) (serviceSpeedCheck value quality) s)

/-- SERVICE_BRAKE_CHANGE (R166). -/
def execServiceBrakeChange (applied : Bool) (s : State) : Outcome :=
  .next (taking (.brakeChange applied) (serviceBrakeChange applied) s)

/-- SERVICE_SIGNAL_REFRESH (R167). -/
def execServiceSignalRefresh (s : State) : Outcome := .next (serviceRefresh s)

end Sys2Proof.Machine
end

