-- ==== Sys2Proof/Machine/Dispatch.lean ====
section
/-!
DEFINITION. One arm for each command: its meaning, by name.
-/
namespace Sys2Proof.Machine

/-- The effect of a command on everything but the queue. -/
def exec (i : Instr) (s : State) : Host.Outcome State Fault Refusal :=
  match i with
  | .partStart fellThroughOff t => Sys2Proof.Machine.execPartStart fellThroughOff t s
  | .brownOut => Sys2Proof.Machine.execBrownOut s
  | .ignitionChange on t => Sys2Proof.Machine.execIgnitionChange on t s
  | .ignitionFilterExpiry t => Sys2Proof.Machine.execIgnitionFilterExpiry t s
  | .afterrunTimerExpiry => Sys2Proof.Machine.execAfterrunTimerExpiry s
  | .storeWriteComplete => Sys2Proof.Machine.execStoreWriteComplete s
  | .receivedFrame bytes t => Sys2Proof.Machine.execReceivedFrame bytes t s
  | .frameGapTimeout => Sys2Proof.Machine.execFrameGapTimeout s
  | .transmitStart => Sys2Proof.Machine.execTransmitStart s
  | .frameSent => Sys2Proof.Machine.execFrameSent s
  | .resetRestart => Sys2Proof.Machine.execResetRestart s
  | .unknownKind => Sys2Proof.Machine.execUnknownKind s
  | .identify => Sys2Proof.Machine.execIdentify s
  | .status => Sys2Proof.Machine.execStatus s
  | .reportSet b marks => Sys2Proof.Machine.execReportSet b marks s
  | .reset => Sys2Proof.Machine.execReset s
  | .configSave b tag => Sys2Proof.Machine.execConfigSave b tag s
  | .configDefaults => Sys2Proof.Machine.execConfigDefaults s
  | .linkRate b code => Sys2Proof.Machine.execLinkRate b code s
  | .signalRead => Sys2Proof.Machine.execSignalRead s
  | .signalPut b signal value quality => Sys2Proof.Machine.execSignalPut b signal value quality s
  | .signalConfig b signal cfg => Sys2Proof.Machine.execSignalConfig b signal cfg s
  | .signalClearFlags b signal flags => Sys2Proof.Machine.execSignalClearFlags b signal flags s
  | .signalForce b signal value => Sys2Proof.Machine.execSignalForce b signal value s
  | .signalRelease b signal => Sys2Proof.Machine.execSignalRelease b signal s
  | .signalAgeTick => Sys2Proof.Machine.execSignalAgeTick s
  | .holdExpiry signal => Sys2Proof.Machine.execHoldExpiry signal s
  | .refreshExpiry slot => Sys2Proof.Machine.execRefreshExpiry slot s
  | .pulseConfig b channel cfg => Sys2Proof.Machine.execPulseConfig b channel cfg s
  | .pulseLogRead b channel => Sys2Proof.Machine.execPulseLogRead b channel s
  | .repeaterConfig b kOut => Sys2Proof.Machine.execRepeaterConfig b kOut s
  | .pulseTransition channel high t => Sys2Proof.Machine.execPulseTransition channel high t s
  | .qualificationExpiry channel => Sys2Proof.Machine.execQualificationExpiry channel s
  | .windowExpiry channel t => Sys2Proof.Machine.execWindowExpiry channel t s
  | .biasCheckExpiry channel band t => Sys2Proof.Machine.execBiasCheckExpiry channel band t s
  | .repeaterTarget => Sys2Proof.Machine.execRepeaterTarget s
  | .repeaterHalfCycleEnd => Sys2Proof.Machine.execRepeaterHalfCycleEnd s
  | .senderConfig b channel cfg => Sys2Proof.Machine.execSenderConfig b channel cfg s
  | .senderSampleExpiry channel raw t => Sys2Proof.Machine.execSenderSampleExpiry channel raw t s
  | .switchConfig b input cfg => Sys2Proof.Machine.execSwitchConfig b input cfg s
  | .switchSampleExpiry input high raw t => Sys2Proof.Machine.execSwitchSampleExpiry input high raw t s
  | .switchRefreshExpiry input => Sys2Proof.Machine.execSwitchRefreshExpiry input s
  | .supplyMeasure mV t => Sys2Proof.Machine.execSupplyMeasure mV t s
  | .underVoltageReportExpiry => Sys2Proof.Machine.execUnderVoltageReportExpiry s
  | .outputConfig b output owner => Sys2Proof.Machine.execOutputConfig b output owner s
  | .outputRead => Sys2Proof.Machine.execOutputRead s
  | .outputForce b output on => Sys2Proof.Machine.execOutputForce b output on s
  | .outputForceRelease b output => Sys2Proof.Machine.execOutputForceRelease b output s
  | .outputOvercurrent output => Sys2Proof.Machine.execOutputOvercurrent output s
  | .outputSenseExpiry output reading t => Sys2Proof.Machine.execOutputSenseExpiry output reading t s
  | .outputRetryExpiry output => Sys2Proof.Machine.execOutputRetryExpiry output s
  | .outputProvingExpiry output => Sys2Proof.Machine.execOutputProvingExpiry output s
  | .outputServiceChange on => Sys2Proof.Machine.execOutputServiceChange on s
  | .distanceHandoff n => Sys2Proof.Machine.execDistanceHandoff n s
  | .distanceRead => Sys2Proof.Machine.execDistanceRead s
  | .tripReset b trip => Sys2Proof.Machine.execTripReset b trip s
  | .odometerSet b tenths => Sys2Proof.Machine.execOdometerSet b tenths s
  | .serviceIntervalSet b km => Sys2Proof.Machine.execServiceIntervalSet b km s
  | .serviceDistanceRefresh => Sys2Proof.Machine.execServiceDistanceRefresh s
  | .hoursTick => Sys2Proof.Machine.execHoursTick s
  | .hoursTenth => Sys2Proof.Machine.execHoursTenth s
  | .gaugeConfig b gauge cfg => Sys2Proof.Machine.execGaugeConfig b gauge cfg s
  | .gaugeRead => Sys2Proof.Machine.execGaugeRead s
  | .gaugeTestSet b gauge position => Sys2Proof.Machine.execGaugeTestSet b gauge position s
  | .gaugeTestEnd b gauge => Sys2Proof.Machine.execGaugeTestEnd b gauge s
  | .gaugeRehome b gauge => Sys2Proof.Machine.execGaugeRehome b gauge s
  | .targetUpdateExpiry gauge => Sys2Proof.Machine.execTargetUpdateExpiry gauge s
  | .motionExpiry gauge coilOpen => Sys2Proof.Machine.execMotionExpiry gauge coilOpen s
  | .homingComplete gauge => Sys2Proof.Machine.execHomingComplete gauge s
  | .gaugeFreezeExpiry gauge => Sys2Proof.Machine.execGaugeFreezeExpiry gauge s
  | .gaugeServiceChange on => Sys2Proof.Machine.execGaugeServiceChange on s
  | .warningConfig b w cfg => Sys2Proof.Machine.execWarningConfig b w cfg s
  | .warningRead b w => Sys2Proof.Machine.execWarningRead b w s
  | .warningAckHead b => Sys2Proof.Machine.execWarningAckHead b s
  | .warningAckIndex b w => Sys2Proof.Machine.execWarningAckIndex b w s
  | .warningAckAll b => Sys2Proof.Machine.execWarningAckAll b s
  | .ackEdge => Sys2Proof.Machine.execAckEdge s
  | .telltaleRead => Sys2Proof.Machine.execTelltaleRead s
  | .lampTest => Sys2Proof.Machine.execLampTest s
  | .attentionRead => Sys2Proof.Machine.execAttentionRead s
  | .warningScan => Sys2Proof.Machine.execWarningScan s
  | .onDelayEnd w => Sys2Proof.Machine.execOnDelayEnd w s
  | .offDelayEnd w => Sys2Proof.Machine.execOffDelayEnd w s
  | .reminderDue w => Sys2Proof.Machine.execReminderDue w s
  | .blinkClockExpiry => Sys2Proof.Machine.execBlinkClockExpiry s
  | .proveOutExpiry => Sys2Proof.Machine.execProveOutExpiry s
  | .chimePatternSet b index pattern => Sys2Proof.Machine.execChimePatternSet b index pattern s
  | .chimePlay b index mode => Sys2Proof.Machine.execChimePlay b index mode s
  | .chimeStop => Sys2Proof.Machine.execChimeStop s
  | .chimeVolume b volume => Sys2Proof.Machine.execChimeVolume b volume s
  | .chimeRequest who pattern mode => Sys2Proof.Machine.execChimeRequest who pattern mode s
  | .chimeWithdrawal who => Sys2Proof.Machine.execChimeWithdrawal who s
  | .markExpiry => Sys2Proof.Machine.execMarkExpiry s
  | .spaceExpiry => Sys2Proof.Machine.execSpaceExpiry s
  | .gapExpiry => Sys2Proof.Machine.execGapExpiry s
  | .tailExpiry => Sys2Proof.Machine.execTailExpiry s
  | .toneSenseExpiry reading => Sys2Proof.Machine.execToneSenseExpiry reading s
  | .doorConfig b target cfg => Sys2Proof.Machine.execDoorConfig b target cfg s
  | .doorConfigStopLatch b stop assist => Sys2Proof.Machine.execDoorConfigStopLatch b stop assist s
  | .doorRead => Sys2Proof.Machine.execDoorRead s
  | .stopRequestClear => Sys2Proof.Machine.execStopRequestClear s
  | .doorPolicy b policy => Sys2Proof.Machine.execDoorPolicy b policy s
  | .doorInputWrite door => Sys2Proof.Machine.execDoorInputWrite door s
  | .doorImplausibilityExpiry door t => Sys2Proof.Machine.execDoorImplausibilityExpiry door t s
  | .doorTravelExpiry door t => Sys2Proof.Machine.execDoorTravelExpiry door t s
  | .doorWiringFault door => Sys2Proof.Machine.execDoorWiringFault door s
  | .doorRefreshExpiry => Sys2Proof.Machine.execDoorRefreshExpiry s
  | .releaseRedecide => Sys2Proof.Machine.execReleaseRedecide s
  | .securedRunComplete t => Sys2Proof.Machine.execSecuredRunComplete t s
  | .overrideChange => Sys2Proof.Machine.execOverrideChange s
  | .interlockOutputChange => Sys2Proof.Machine.execInterlockOutputChange s
  | .stopRequestEdge assist => Sys2Proof.Machine.execStopRequestEdge assist s
  | .faultReportActive code => Sys2Proof.Machine.execFaultReportActive code s
  | .faultReportInactive code => Sys2Proof.Machine.execFaultReportInactive code s
  | .faultNext => Sys2Proof.Machine.execFaultNext s
  | .faultRewind => Sys2Proof.Machine.execFaultRewind s
  | .faultClear b scope => Sys2Proof.Machine.execFaultClear b scope s
  | .freezeListSet b signals => Sys2Proof.Machine.execFreezeListSet b signals s
  | .faultConfig b limit => Sys2Proof.Machine.execFaultConfig b limit s
  | .serviceEnter => Sys2Proof.Machine.execServiceEnter s
  | .serviceExit => Sys2Proof.Machine.execServiceExit s
  | .serviceSpeedCheck value quality => Sys2Proof.Machine.execServiceSpeedCheck value quality s
  | .serviceBrakeChange applied => Sys2Proof.Machine.execServiceBrakeChange applied s
  | .serviceSignalRefresh => Sys2Proof.Machine.execServiceSignalRefresh s
  | .badStopBit => Sys2Proof.Machine.execBadStopBit s
  | .toneTick => Sys2Proof.Machine.execToneTick s

end Sys2Proof.Machine
end

