-- ==== Sys2Proof/Machine/Step.lean ====
section
/-!
DEFINITION. One step: the command at the front of the queue, or, with no command waiting, the oldest hand-off between
blocks; with neither the part idles.
-/
namespace Sys2Proof.Machine

/-- With no command waiting the oldest hand-off is taken as its event (log 1); with none the part idles (log 10). -/
def idle (s : State) : Outcome :=
  match s.handed with
  | h :: _ => exec h.instr s
  | [] => .next s

/-- One step: the front command on the state with the queue's rest, or `idle`. -/
def step (s : State) : Host.Outcome State Fault Refusal :=
  match s.pending with
  | c :: rest => exec c (s.setPending rest)
  | [] => idle s

/-- The state with the command a word spells put at the front of its queue; unchanged where the word spells none. -/
def State.withFetchWord (s : State) (nbits w : Nat) : State :=
  match decodeTableWord nbits w with
  | some c => s.setPending (c :: s.pending)
  | none => s

end Sys2Proof.Machine
end

