-- ==== Sys2Proof/Safety.lean ====
section
/-!
DEFINITION. What counts as a safe run of the 4C24, in the terms the statements use.
-/
namespace Sys2Proof

/-- A body of the right length whose code fields hold defined codes (R171). -/
def BodyForm.good : BodyForm := ⟨true, true⟩

namespace Machine

/-- The parts of `State`, by name: what an operation may touch, and what it leaves alone. -/
inductive Block where
  | signals | pulse | repeater | senders | switches | supply | outputs | distance | gauges | warnings | chime | doors
  | faults | link | power | store | handed | clock | pending
  deriving DecidableEq, Repr

/-- A block reads the same in both states. -/
def Block.same : Block → State → State → Prop
  | .signals, s, t => t.signals = s.signals
  | .pulse, s, t => t.pulse = s.pulse
  | .repeater, s, t => t.repeater = s.repeater
  | .senders, s, t => t.senders = s.senders
  | .switches, s, t => t.switches = s.switches
  | .supply, s, t => t.supply = s.supply
  | .outputs, s, t => t.outputs = s.outputs
  | .distance, s, t => t.distance = s.distance
  | .gauges, s, t => t.gauges = s.gauges
  | .warnings, s, t => t.warnings = s.warnings
  | .chime, s, t => t.chime = s.chime
  | .doors, s, t => t.doors = s.doors
  | .faults, s, t => t.faults = s.faults
  | .link, s, t => t.link = s.link
  | .power, s, t => t.power = s.power
  | .store, s, t => t.store = s.store
  | .handed, s, t => t.handed = s.handed
  | .clock, s, t => t.clock = s.clock
  | .pending, s, t => t.pending = s.pending

/-- `t` reads as `s` in every part but those named. -/
def State.keepsAllBut (s : State) (but_ : List Block) (t : State) : Prop := ∀ b, b ∉ but_ → b.same s t

/-! ### Requests -/

/-- A request of kind `k` stands IN_HAND in slot `x` (R171). -/
abbrev State.asks (s : State) (k : Byte) (x : Slot) : Prop := s.link.inHand = some x ∧ x.kind = k

/-- The request in slot `x` is answered: its reply enters the reply path, and the oldest WAITING request comes in hand
(R171). -/
def State.replied (s : State) (x : Slot) (r : Result) (body : ReplyBody := .none) (rate : Option Rate := none) : State :=
  s.setLink ((s.link.answer x r body rate).handNext)

/-- On the way from `s` to `t` the report `r` was offered and stands: with its kind enabled it is in the queue, or it was lost
to a full one (R173, R174). -/
def State.offers (s : State) (r : Report) (t : State) : Prop :=
  s.link.enabled.getLsbD r.kind.place = true →
    r ∈ t.link.reports ∨ (t.link.reportsLost = true ∧ 16 ≤ t.link.reports.length)

/-- Of the link no more than its report queue has changed. -/
def State.keepsLinkButReports (s t : State) : Prop :=
  t.link = { s.link with
    reports := t.link.reports, reportsLost := t.link.reportsLost, lostCount := t.link.lostCount }

/-- All that queueing `items` in one event does to the power and store block (R183): each item that does not wait yet joins
the end of the commit list; with no write in flight the head then leaves the list and is written as it stands. -/
def State.queues (s : State) (items : List Item) (t : State) : Prop :=
  t.power = match s.power.writing, items.foldl (fun c i => if i ∈ c then c else c ++ [i]) s.power.commit with
    | none, i :: rest => { s.power with writing := some (t.writeOf i), commit := rest }
    | _, list => { s.power with commit := list }

/-- Item `i` reaches the store as it stands: it waits in the commit list, or its write has begun with the present contents
(R183). -/
def State.stores (t : State) (i : Item) : Prop := i ∈ t.power.commit ∨ t.power.writing = some (t.writeOf i)

/-- OK, or ADJUSTED when a field was clamped (00_scope, "Ranges"). -/
def okOr (adjusted : Bool) : Result := if adjusted then .adjusted else .ok

/-- Nothing holds up the end of AFTERRUN, so that any event completes it (R181). -/
def State.afterrunDone (s : State) : Bool :=
  s.power.mode == .afterrun && !s.power.parkingPending && s.power.commit.isEmpty && s.power.writing.isNone

/-- The kind and body form of a request whose body has fields (10.7). -/
def requestForm : Instr → Option (Byte × BodyForm)
  | .reportSet b _ => some (0x03#8, b)
  | .configSave b _ => some (0x05#8, b)
  | .linkRate b _ => some (0x07#8, b)
  | .signalPut b _ _ _ => some (0x11#8, b)
  | .signalConfig b _ _ => some (0x12#8, b)
  | .signalClearFlags b _ _ => some (0x13#8, b)
  | .signalForce b _ _ => some (0x14#8, b)
  | .signalRelease b _ => some (0x15#8, b)
  | .pulseConfig b _ _ => some (0x20#8, b)
  | .pulseLogRead b _ => some (0x21#8, b)
  | .repeaterConfig b _ => some (0x22#8, b)
  | .senderConfig b _ _ => some (0x28#8, b)
  | .switchConfig b _ _ => some (0x29#8, b)
  | .outputConfig b _ _ => some (0x2A#8, b)
  | .outputForce b _ _ => some (0x2C#8, b)
  | .outputForceRelease b _ => some (0x2C#8, b)
  | .tripReset b _ => some (0x31#8, b)
  | .odometerSet b _ => some (0x32#8, b)
  | .serviceIntervalSet b _ => some (0x33#8, b)
  | .gaugeConfig b _ _ => some (0x40#8, b)
  | .gaugeTestSet b _ _ => some (0x42#8, b)
  | .gaugeTestEnd b _ => some (0x42#8, b)
  | .gaugeRehome b _ => some (0x43#8, b)
  | .warningConfig b _ _ => some (0x50#8, b)
  | .warningRead b _ => some (0x51#8, b)
  | .warningAckHead b => some (0x52#8, b)
  | .warningAckIndex b _ => some (0x52#8, b)
  | .warningAckAll b => some (0x52#8, b)
  | .chimePatternSet b _ _ => some (0x58#8, b)
  | .chimePlay b _ _ => some (0x59#8, b)
  | .chimeVolume b _ => some (0x5B#8, b)
  | .doorConfig b _ _ => some (0x60#8, b)
  | .doorConfigStopLatch b _ _ => some (0x60#8, b)
  | .doorPolicy b _ => some (0x63#8, b)
  | .faultClear b _ => some (0x72#8, b)
  | .freezeListSet b _ => some (0x73#8, b)
  | .faultConfig b _ => some (0x74#8, b)
  | _ => none

/-- The kind of a request that carries no fields (10.7). -/
def bareKind : Instr → Option Byte
  | .identify => some 0x01#8
  | .status => some 0x02#8
  | .reset => some 0x04#8
  | .configDefaults => some 0x06#8
  | .outputRead => some 0x2B#8
  | .distanceRead => some 0x30#8
  | .gaugeRead => some 0x41#8
  | .telltaleRead => some 0x53#8
  | .lampTest => some 0x54#8
  | .attentionRead => some 0x55#8
  | .chimeStop => some 0x5A#8
  | .doorRead => some 0x61#8
  | .stopRequestClear => some 0x62#8
  | .faultNext => some 0x70#8
  | .faultRewind => some 0x71#8
  | .serviceEnter => some 0x78#8
  | .serviceExit => some 0x79#8
  | _ => none

/-! ### Laws of the 4C24 -/

/-- The report queue holds at most 16 entries, no two of one kind and subject (R173). -/
def ReportQueueLaw (s : State) : Prop :=
  s.link.reports.length ≤ 16 ∧ (s.link.reports.map fun r => (r.kind, r.subject)).Nodup

/-- The request buffer keeps R170 and R171: at most 4 slots and 4 busy entries; no two slots of one name; one slot IN_HAND
at most, and one if any waits; a slot ANSWERED while its reply is in the reply path and no longer, one reply for each slot
and one for each busy entry; a slot DEFERRED while the CONFIG_SAVE it carries awaits its completion. -/
def RequestBufferLaw (s : State) : Prop :=
  let l := s.link
  l.slots.length ≤ 4 ∧ l.busy.length ≤ 4 ∧ (l.slots.map Slot.serial).Nodup ∧ (∀ y ∈ l.slots, y.serial < l.serial) ∧
    (l.slots.filter (·.stage == .inHand)).length ≤ 1 ∧
    ((∃ y ∈ l.slots, y.stage = .waiting) → ∃ y ∈ l.slots, y.stage = .inHand) ∧
    (∀ n, (l.replies.filter (·.source == .slot n)).length =
      if ∃ y ∈ l.slots, y.serial = n ∧ y.stage = .answered then 1 else 0) ∧
    (l.replies.filter (·.source == .busy)).length = l.busy.length ∧
    ∀ y ∈ l.slots, y.stage = .deferred ↔ ∃ tag, s.power.saving = some (y.serial, tag)

/-- The commit list holds each item at most once (R183). -/
def CommitListLaw (s : State) : Prop := s.power.commit.Nodup

/-- At most 24 records, no two with the same code (R157). -/
def FaultRecordsLaw (xs : List FaultRec) : Prop := xs.length ≤ 24 ∧ (xs.map FaultRec.code).Nodup

/-- The fault memory keeps R157, and so do its stored item and a write of it in flight. -/
def FaultMemoryLaw (s : State) : Prop :=
  FaultRecordsLaw s.faults.records ∧ FaultRecordsLaw s.store.faults.records ∧
    ∀ w im, s.power.writing = some w → w.data = .faults im → FaultRecordsLaw im.records

/-- The interlock command is applied in RUN unless overridden or the secured run is complete, and released in every other
mode; a secured run runs or is complete only while every fitted door stands SECURED (R145, R153). -/
def InterlockLaw (s : State) : Prop :=
  s.doors.interlock = (s.power.mode == .run && !s.doors.overrideRead && s.doors.run != .complete) ∧
    (s.doors.run ≠ .stopped → s.active = true ∧ s.allSecured = true)

/-- Every input a door's configuration names is one of the switches K0 to K23 (R133). -/
def doorInputsNamed (c : DoorCfg) : Prop := ∀ k ∈ doorInputs c, k ≤ 23

/-- Doors name switches as inputs: in the configurations in force, stored and in flight (R133). -/
def DoorInputLaw (s : State) : Prop :=
  (∀ x ∈ s.doors.doors.toList, doorInputsNamed x.cfg) ∧ (∀ c ∈ s.store.config.doors.toList, doorInputsNamed c) ∧
    ∀ w im, s.power.writing = some w → w.data = .config im → ∀ c ∈ im.doors.toList, doorInputsNamed c

/-- A stop or assist request is on record only in RUN and AFTERRUN, and never while a fitted door stands OPEN (R149,
R150, R153). -/
def StopLatchLaw (s : State) : Prop :=
  s.doors.stop ≠ .none →
    s.active = true ∧ ∀ x ∈ s.doors.doors.toList, x.cfg.fitted = true → x.code ≠ codeOpen

/-- No output carries a force outside the service mode as the drivers last took it, none owned by INTERLOCK is forced
off, and no short count passes 3 (R56, R60). -/
def OutputForceLaw (s : State) : Prop :=
  ∀ o ∈ s.outputs.outs.toList,
    (s.outputs.service = false → o.force = none) ∧ (o.owner = .interlock → o.force ≠ some false) ∧ o.shortCount ≤ 3

/-- Every position a gauge's configuration names lies within its Pmax (R77). -/
def gaugeInScale (c : GaugeCfg) : Prop := (∀ p ∈ c.curve, p.2 ≤ c.pmax) ∧ c.failPos ≤ c.pmax

/-- The pointer lies within its scale with room to stop: decelerating by 1 at each motion event it would not leave
0 … Pmax (R81). -/
def Gauge.hasRoom (x : Gauge) : Prop :=
  x.p ≤ x.cfg.pmax ∧ (if x.up then x.p + x.s * (x.s - 1) / 2 ≤ x.cfg.pmax else x.s * (x.s - 1) / 2 ≤ x.p)

/-- One gauge within its scale: pointer, speed at rest where the state has no motion, and the targets it may be given. -/
def Gauge.lawful (active : Bool) (x : Gauge) : Prop :=
  gaugeInScale x.cfg ∧ x.hasRoom ∧
    (x.state = .unhomed ∨ x.state = .fault → x.p = 0 ∧ x.s = 0 ∧ x.testPos = none) ∧ (x.state = .homing → x.s = 0) ∧
    (if active then (∀ τ, x.tracked = some τ → τ.pos ≤ x.cfg.pmax) ∧ ∀ q, x.testPos = some q → q ≤ x.cfg.pmax
     else x.p = 0 ∧ x.s = 0 ∧ x.tracked = none)

/-- Every pointer stays within its scale (R81), with what that rests on: configurations in force, stored and in flight
keep R77, and the supply is not measured outside RUN and AFTERRUN. -/
def GaugeScaleLaw (s : State) : Prop :=
  (∀ x ∈ s.gauges.gauges.toList, x.lawful s.active) ∧ (∀ c ∈ s.store.config.gauges.toList, gaugeInScale c) ∧
    (∀ w im, s.power.writing = some w → w.data = .config im → ∀ c ∈ im.gauges.toList, gaugeInScale c) ∧
    (s.active = false → s.supply.measureOn = false)

/-- The pending list holds one request for each requester at most, in the order of R122; nothing waits while the generator
is IDLE, and in SPACE and GAP the sounding request is the head, neither replaced nor reconfigured (R121, R122, R124,
R126). -/
def ChimeListLaw (s : State) : Prop :=
  let c := s.chime
  (c.requests.map ChimeReq.who).Nodup ∧ (∀ r ∈ c.requests, r.arrival < c.nextArrival) ∧
    (c.requests.map ChimeReq.arrival).Nodup ∧
    (c.requests.Pairwise fun a b =>
      c.priority b < c.priority a ∨ (c.priority a = c.priority b ∧ a.arrival < b.arrival)) ∧
    (c.state = .idle → c.requests = []) ∧
    (c.state = .mark → c.sounding.isSome = true) ∧
    (c.state = .space ∨ c.state = .gap →
      ∃ x, c.sounding = some x ∧ x.replaced = false ∧ x.reconfigured = false ∧
        ∃ r, c.requests.head? = some r ∧ r.who = x.who)

/-- Warning `i` stands shown and not acknowledged (R110). -/
def WarnUnit.wants (u : WarnUnit) (i : Nat) : Prop :=
  i < 32 ∧ (tget u.warnings i).state.showing = true ∧ (tget u.warnings i).acked = false

/-- The activation list holds exactly the warnings that are shown, each once, and the attention list exactly those of them
that are not acknowledged, those of STOP first, then CAUTION, then INFO, each in activation order (R105, R110). -/
def AttentionLaw (s : State) : Prop :=
  let u := s.warnings
  u.activation.Nodup ∧ (∀ i, i ∈ u.activation ↔ i < 32 ∧ (tget u.warnings i).state.showing = true) ∧
    u.attention = u.attentionOf .stop ++ u.attentionOf .caution ++ u.attentionOf .info

/-- Every telltale stands at the most urgent pattern its warnings contribute, and shows it, or STEADY while a prove-out
runs (R113, R115). -/
def TelltaleLaw (s : State) : Prop :=
  ∀ t, t < 32 → tget s.warnings.telltales t =
    ⟨s.warnings.merged t, if s.warnings.proveOut.isSome then .steady else s.warnings.merged t⟩

/-- A record's configuration has its range in order and its substitute within it (R7). -/
def sigInOrder (c : SigCfg) : Prop :=
  c.rangeMin ≤ c.rangeMax ∧ ∀ v, c.substitute = some v → c.rangeMin ≤ v ∧ v ≤ c.rangeMax

/-- Every record's value lies within its range (R8), with what that rests on: configurations in force, stored and in
flight keep R7. -/
def SignalRangeLaw (s : State) : Prop :=
  (∀ r ∈ s.signals.toList, sigInOrder r.cfg ∧ r.cfg.rangeMin ≤ r.value ∧ r.value ≤ r.cfg.rangeMax) ∧
    (∀ c ∈ s.store.config.signals.toList, sigInOrder c) ∧
    ∀ w im, s.power.writing = some w → w.data = .config im → ∀ c ∈ im.signals.toList, sigInOrder c

/-- Eight decimal digits (4.1). -/
def totalOk (ds : List Nat) : Prop := ds.length = 8 ∧ ∀ d ∈ ds, d ≤ 9

end Machine

end Sys2Proof
end

