-- ==== Sys2Proof/Certificates/Slice0/Obligations.lean ====
section
/-!
DEFINITION. The statements about the 4C24 that are to be proved, one definition each. They speak of commands by
`exec`, of the requests in hand by `State.asks`, of answers by `State.replied`, and of what stays by
`State.keepsAllBut`. Where a statement rests on a choice of the model, its docstring names the log entry.
-/
open Sys2Proof Sys2Proof.Machine

/-- A step takes the front command of the queue and runs it on the state with the queue's rest; with no command
waiting the oldest hand-off between blocks is taken as its event, and with none the part idles. The queue and the
outbox are the model's own (log 1, log 10). -/
def Obligations.StepRunsFrontCommand : Prop :=
  ∀ (c : Instr) (rest : List Instr) (s : State),
    step (s.setPending (c :: rest)) = exec c (s.setPending rest) ∧
    (s.handed = [] → step (s.setPending []) = .next (s.setPending [])) ∧
    ∀ h hs, s.handed = h :: hs → step (s.setPending []) = exec h.instr (s.setPending [])

/-- An answer puts one reply with the request's kind and tag at the end of the reply path, with fields under OK and
ADJUSTED alone; the slot stands ANSWERED, the other slots keep their order, and the oldest WAITING request comes in
hand (R171). The premise is `RequestBufferLaw`. A request whose body has the wrong length is answered BAD_LENGTH, and
one with a code its chapter does not define RANGE, and neither changes anything but the link (R171); so is a request
without fields whose body is not empty. That an undefined code is judged before any other refusal of its rule is the
model's choice (log 14). -/
def Obligations.RequestsAreAnsweredOnce : Prop :=
  (∀ (s : State) (x : Slot) (r : Result) (body : ReplyBody) (rate : Option Rate),
     RequestBufferLaw s → s.link.inHand = some x →
     let t := s.replied x r body rate
     t.link.replies = s.link.replies ++
       [⟨x.kind, x.tag, r, if r = .ok ∨ r = .adjusted then body else .none, .slot x.serial, rate⟩] ∧
     t.link.slots.map Slot.serial = s.link.slots.map Slot.serial ∧
     (∀ y ∈ t.link.slots, y.serial = x.serial → y.stage = .answered) ∧
     (∀ y ∈ s.link.slots, y.serial ≠ x.serial → y.stage ≠ .waiting → y ∈ t.link.slots) ∧
     t.link.inHand = (s.link.slots.find? (·.stage == .waiting)).map fun y => { y with stage := .inHand }) ∧
  (∀ (c : Instr) (k : Byte) (s : State) (x : Slot), s.asks k x → s.afterrunDone = false →
     (∀ b, requestForm c = some (k, b) →
       (b.lengthOk = false → exec c s = .next (s.replied x .badLength)) ∧
       (b.lengthOk = true → b.codesOk = false → exec c s = .next (s.replied x .range))) ∧
     (bareKind c = some k → x.body ≠ [] → exec c s = .next (s.replied x .badLength)))

/-- IDENTIFY, STATUS, LINK_RATE, and the answer to an unknown kind (R168, R171, R176). STATUS shows BAD_FRAME and
clears it; an accepted LINK_RATE sets the rate of the working configuration, and the rate in force changes with the
reply (FRAME_SENT). The revision letter is free but for being a capital (log 7). RESET answers every request still
WAITING with BUSY, oldest first, then itself with OK, and queues the counter record, the door counts and the fault
memory item, the first of which may be under way at once; frames that arrive before the restart are not executed
(R177): each takes a free slot and is answered BUSY there (the model's reading, log 13, DEDUCED). -/
def Obligations.LinkRequestsAct : Prop :=
  (∀ (s : State) (x : Slot),
     (s.asks 0x01#8 x → x.body = [] →
       (65 ≤ revisionByte.toNat ∧ revisionByte.toNat ≤ 90) ∧
       exec .identify s = .next (s.replied x .ok (.identify 0x0F3A 0x4D 0x0C24 revisionByte s.power.tag))) ∧
     (s.asks 0x02#8 x → x.body = [] →
       exec .status s = .next ((s.setLink { s.link with badFrame := false }).replied x .ok
         (.status { mode := s.power.mode, service := s.faults.service, badFrame := s.link.badFrame,
                    reportsLost := s.link.reportsLost, lostCount := s.link.lostCount,
                    writing := s.power.writing.isSome, configGood := s.power.configGood, cycles := s.power.cycles,
                    cause := s.power.cause }))) ∧
     (s.asks 0x07#8 x → ∀ code, exec (.linkRate .good code) s = .next
       (match code with
         | 0 => (s.setLink { s.link with rateCfg := .r57600 }).replied x .ok .none (some .r57600)
         | 1 => (s.setLink { s.link with rateCfg := .r115200 }).replied x .ok .none (some .r115200)
         | 2 => (s.setLink { s.link with rateCfg := .r230400 }).replied x .ok .none (some .r230400)
         | 3 => (s.setLink { s.link with rateCfg := .r460800 }).replied x .ok .none (some .r460800)
         | _ => s.replied x .range)) ∧
     (s.link.inHand = some x →
       x.kind.toNat ∉ [0x01, 0x02, 0x03, 0x04, 0x05, 0x06, 0x07, 0x10, 0x11, 0x12, 0x13, 0x14, 0x15, 0x20, 0x21, 0x22,
         0x28, 0x29, 0x2A, 0x2B, 0x2C, 0x30, 0x31, 0x32, 0x33, 0x40, 0x41, 0x42, 0x43, 0x50, 0x51, 0x52, 0x53, 0x54,
         0x55, 0x58, 0x59, 0x5A, 0x5B, 0x60, 0x61, 0x62, 0x63, 0x70, 0x71, 0x72, 0x73, 0x74, 0x78, 0x79] →
       exec .unknownKind s = .next (s.replied x .unknownKind))) ∧
  (∀ (s : State) (x : Slot), RequestBufferLaw s → s.asks 0x04#8 x → x.body = [] →
     ∃ t, exec .reset s = .next t ∧ s.keepsAllBut [.link, .power] t ∧
       t.link.resetPending = true ∧
       t.link.replies = s.link.replies ++
         (s.link.slots.filter (·.stage == .waiting)).map (fun y => ⟨y.kind, y.tag, .busy, .none, .slot y.serial, none⟩) ++
         [⟨x.kind, x.tag, .ok, .none, .slot x.serial, none⟩] ∧
       (∀ y ∈ t.link.slots, y.stage ≠ .waiting ∧ y.stage ≠ .inHand) ∧
       (∀ i, i = .counters ∨ i = .doorCounts ∨ i = .faults → t.stores i) ∧
       ∀ kind tag body, t.link.slots.length < 4 →
         ((t.link.received kind tag body).replies = t.link.replies ++
           [⟨kind, tag, .busy, .none, .slot t.link.serial, none⟩]) ∧
         ∀ y ∈ (t.link.received kind tag body).slots, y.stage ≠ .waiting ∧ y.stage ≠ .inHand)

/-- An offered report of a disabled kind is discarded; one of an enabled kind takes the place of the queued entry of
its kind and subject, or is appended, or, with 16 entries queued, is dropped and counted from the first loss on, up to
65535; the order of the entries never changes (R173, R174). That the count takes in the report whose loss sets the
flag is the model's reading (log 11). REPORT_SET keeps the marks of WARNING_CHANGE to SERVICE_CHANGE and removes the
queued entries of every other kind, REPORTS_LOST apart; when an entry was removed while reports had been lost, a
REPORTS_LOST report with the count joins the queue or raises the one queued, and flag and count clear (R174, R175).
Nothing but the link changes. -/
def Obligations.ReportQueueTakesAndPrunes : Prop :=
  (∀ (s : State) (k : ReportKind) (n : Nat) (body : ReportBody),
     let q := s.link.reports
     let t := offer k n body s
     (s.link.enabled.getLsbD k.place = false → t = s) ∧
     (s.link.enabled.getLsbD k.place = true →
       (∀ u v old, q = u ++ ⟨k, n, old⟩ :: v → (∀ r ∈ u ++ v, ¬(r.kind = k ∧ r.subject = n)) →
         t = s.setLink { s.link with reports := u ++ ⟨k, n, body⟩ :: v }) ∧
       ((∀ r ∈ q, ¬(r.kind = k ∧ r.subject = n)) →
         (q.length < 16 → t = s.setLink { s.link with reports := q ++ [⟨k, n, body⟩] }) ∧
         (16 ≤ q.length → t = s.setLink { s.link with
           reportsLost := true,
           lostCount := if s.link.reportsLost then min 65535 (s.link.lostCount + 1) else 1 })))) ∧
  (∀ (s : State) (x : Slot) (marks : BitVec 16), s.asks 0x03#8 x →
     let on := marks &&& 0x07FF#16
     let kept := s.link.reports.filter fun r => r.kind == .reportsLost || on.getLsbD r.kind.place
     let frees := decide (kept.length < s.link.reports.length) && s.link.reportsLost
     ∃ t, exec (.reportSet .good marks) s = .next t ∧ s.keepsAllBut [.link] t ∧
       t.link.enabled = on ∧ t.link.replies = s.link.replies ++ [⟨x.kind, x.tag, .ok, .enabled on, .slot x.serial, none⟩] ∧
       (frees = false →
         t.link.reports = kept ∧ t.link.reportsLost = s.link.reportsLost ∧ t.link.lostCount = s.link.lostCount) ∧
       (frees = true → t.link.reportsLost = false ∧ t.link.lostCount = 0 ∧
         ((∀ r ∈ kept, r.kind ≠ .reportsLost) →
           t.link.reports = kept ++ [⟨.reportsLost, 0, .reportsLost s.link.lostCount⟩]) ∧
         ∀ n u v c, kept = u ++ ⟨.reportsLost, n, .reportsLost c⟩ :: v → (∀ r ∈ u ++ v, r.kind ≠ .reportsLost) →
           t.link.reports = u ++ ⟨.reportsLost, n, .reportsLost (min 65535 (c + s.link.lostCount))⟩ :: v))

/-- A frame whose check is good is handed to the request buffer whole, whatever bytes its body holds: with a slot free
it waits behind the others and the oldest waiting request comes in hand; with the four slots taken its kind and tag
join the busy list with a BUSY reply, or, with that full too, it is dropped and BAD_FRAME set. A frame with a bad
check is dropped without a reply and BAD_FRAME set. The receiver is left hunting (R169, R170). A byte that is no lead
byte is discarded while hunting; a gap in a frame, a byte with a bad stop bit, and a length byte outside 2 to 130 drop
the frame in progress and set BAD_FRAME; while hunting neither gap nor bad stop bit does anything (R169). -/
def Obligations.FramesAreWholeOrDropped : Prop :=
  (∀ (s : State) (kind tag check : Byte) (body : List Byte) (t : Nat),
     s.powered = true → s.link.rx = none → s.link.resetPending = false → body.length ≤ 128 →
     let covered := BitVec.ofNat 8 (body.length + 2) :: kind :: tag :: body
     let l := s.link
     ∃ u, exec (.receivedFrame (0xB7#8 :: covered ++ [check]) t) s = .next u ∧ s.keepsAllBut [.link, .clock] u ∧
       u.clock = max s.clock t ∧ u.link.rx = none ∧
       (check ≠ crc8 covered → u.link = { l with badFrame := true }) ∧
       (check = crc8 covered →
         (l.slots.length < 4 → u.link = ({ l with
           slots := l.slots ++ [⟨l.serial, kind, tag, body, .waiting⟩], serial := l.serial + 1 } : Link).handNext) ∧
         (4 ≤ l.slots.length → l.busy.length < 4 → u.link = { l with
           busy := l.busy ++ [(kind, tag)], replies := l.replies ++ [⟨kind, tag, .busy, .none, .busy, none⟩] }) ∧
         (4 ≤ l.slots.length → 4 ≤ l.busy.length → u.link = { l with badFrame := true }))) ∧
  (∀ (s : State), s.powered = true →
     (s.link.rx = none → exec .frameGapTimeout s = .next s ∧ exec .badStopBit s = .next s ∧
       ∀ b : Byte, b ≠ 0xB7#8 → exec (.receivedFrame [b] s.clock) s = .next s) ∧
     (s.link.rx ≠ none →
       exec .frameGapTimeout s = .next (s.setLink { s.link with rx := none, badFrame := true }) ∧
       exec .badStopBit s = .next (s.setLink { s.link with rx := none, badFrame := true })) ∧
     (s.link.rx = some [] → ∀ b : Byte, b.toNat < 2 ∨ 130 < b.toNat →
       exec (.receivedFrame [b] s.clock) s = .next (s.setLink { s.link with rx := none, badFrame := true })))

/-- The transmitter sends one frame at a time: when free it takes the oldest reply; only with no reply waiting does it
take the head of the report queue, which leaves the queue then. When reports have been lost by then, a REPORTS_LOST
report with the count takes the place freed, or raises the count of the one still queued, up to 65535, and flag and
count clear (R172, R174). When the last byte of a reply has left, its slot, or the oldest entry of the busy list, is
free, and the oldest waiting request comes in hand if none is; the reply of an accepted LINK_RATE brings its rate into
force, and a frame partly received at another rate is dropped with BAD_FRAME. A report that was sent changes nothing
else (R168, R170, R172). Which rate is already in force is judged when the reply has left, which is the model's choice
(log 37). -/
def Obligations.TransmitterSendsWholeFrames : Prop :=
  (∀ (s : State), s.powered = true →
     (s.link.tx ≠ none → exec .transmitStart s = .next s) ∧
     (s.link.tx = none → s.link.replies ≠ [] →
       exec .transmitStart s = .next (s.setLink { s.link with tx := some .reply })) ∧
     (s.link.tx = none → s.link.replies = [] → s.link.reports = [] → exec .transmitStart s = .next s) ∧
     ∀ r rest, s.link.tx = none → s.link.replies = [] → s.link.reports = r :: rest →
       (s.link.reportsLost = false →
         exec .transmitStart s = .next (s.setLink { s.link with tx := some (.report r), reports := rest })) ∧
       (s.link.reportsLost = true → (∀ q ∈ rest, q.kind ≠ .reportsLost) →
         exec .transmitStart s = .next (s.setLink { s.link with
           tx := some (.report r), reports := rest ++ [⟨.reportsLost, 0, .reportsLost s.link.lostCount⟩],
           reportsLost := false, lostCount := 0 })) ∧
       (s.link.reportsLost = true → ∀ n u v count, rest = u ++ ⟨.reportsLost, n, .reportsLost count⟩ :: v →
         (∀ q ∈ u ++ v, q.kind ≠ .reportsLost) → exec .transmitStart s = .next (s.setLink { s.link with
           tx := some (.report r),
           reports := u ++ ⟨.reportsLost, n, .reportsLost (min 65535 (count + s.link.lostCount))⟩ :: v,
           reportsLost := false, lostCount := 0 }))) ∧
  (∀ (s : State), s.powered = true →
     (∀ r, s.link.tx = some (.report r) → exec .frameSent s = .next (s.setLink { s.link with tx := none })) ∧
     ∀ y rest, s.link.tx = some .reply → s.link.replies = y :: rest →
       (∀ n, y.source = .slot n → y.rate = none → exec .frameSent s = .next (s.setLink
         ({ s.link with tx := none, replies := rest, slots := s.link.slots.filter (·.serial != n) } : Link).handNext)) ∧
       (∀ b bs, y.source = .busy → y.rate = none → s.link.busy = b :: bs → exec .frameSent s = .next (s.setLink
         ({ s.link with tx := none, replies := rest, busy := bs } : Link).handNext)) ∧
       ∀ n r, y.source = .slot n → y.rate = some r → exec .frameSent s = .next (s.setLink
         ({ s.link with
           tx := none, replies := rest, slots := s.link.slots.filter (·.serial != n), rate := r,
           rx := if r = s.link.rate then s.link.rx else none,
           badFrame := s.link.badFrame || (decide (r ≠ s.link.rate) && s.link.rx.isSome) } : Link).handNext))

/-- A start puts every block in its power-on state under the configuration the store gives, in the order fault memory,
configuration image, counter record, door counts; an item with a bad check takes its fallback and is reported (R74,
R141, R164, R179, R184). With the ignition line off the part stands in SLEEP: records FAILED with no flag, channels,
senders and switches at rest, outputs off with short count 0, gauges UNHOMED and unpowered, warnings INACTIVE, nothing
sounding, doors without a mark or a timer, no permission, no stop request, no service mode, the link empty (R16, R37,
R46, R51, R53, R54, R62, R76, R95, R118, R132, R152, R164, R178). With it on the part stands in RUN, as that state
after a RUN entry. The cause is BROWN_OUT after a trip during which the supply stayed above OFF, REQUEST after a
RESET, else POWER_ON; a restart keeps the line rate in force (R168, R177). A part that has its supply takes no start,
and a RESET waits until replies, deferred requests and commits are done. That a queued write begins once, at the end
of the start, so that with the ignition on the counter record carries the raised count (log 52), and that what is
handed on and not yet taken is dropped, and not waited for, is the model's choice (log 49). That no door's timer runs
after a RUN entry rests on `DoorInputLaw` (R133). The model's choice are a door's code and the released interlock
before the first derivation (log 6) and the working quantities to which the spec gives no value (log 18: run starts,
saturated, the repeater's target, the coil mark, the counts since a commit, the transmitter, the RESET wait, and those
of the power block). -/
def Obligations.StartLoadsTheStore : Prop :=
  ∀ (s : State),
    let st := s.store
    let im := if st.configGood then st.config else ConfigImage.factory
    let cycles := if st.countersGood then st.counters.cycles else 0
    let counts (d : Nat) : Nat := if st.doorCountsGood then tget st.doorCounts d else 0
    let reports : List Handoff :=
      (if st.configGood then [] else [.faultActive (faultCode .store 0 .configLost)]) ++
      (if st.countersGood then [] else [.faultActive (faultCode .store 1 .countersLost)]) ++
      (if st.doorCountsGood then [] else
        [.faultActive (faultCode .store 2 .countersLost), .faultInactive (faultCode .store 2 .countersLost)])
    let record (c : SigCfg) : SigRec :=
      ⟨c, c.substitute.getD c.rangeMin, .failed, 65535, ⟨false, false, false, false⟩, false, ⟨false, 0⟩, ⟨false, 0⟩⟩
    let channel (i : Nat) : PulseChan :=
      { cfg := tget im.pulse i, pin := (s.chan i).pin, settled := (s.chan i).pin, qual := none, reference := none, n := 0,
        t := 0, saturated := false, fPrev := 0, log := [], logOverrun := false, abortHold := false,
        wiring := ⟨.clean, none, none⟩, windowTimer := none, biasOn := false }
    let loaded (cause : ResetCause) (t : State) : Prop :=
      t.power.cause = cause ∧ t.store = st ∧ t.pending = s.pending ∧ t.image = im ∧ t.power.configGood = st.configGood ∧
      t.power.filterOn = false ∧ t.power.afterrunOn = false ∧ t.power.parkingPending = false ∧ t.power.saving = none ∧
      t.distance.record = (if st.countersGood then st.counters.record else Counters.lost) ∧
      t.distance.r = 0 ∧ t.distance.sub = 0 ∧
      t.faults.records = (if st.faultsGood
        then st.faults.records.map fun r => if r.code / 4096 = 9 then r else { r with active := false } else []) ∧
      t.faults.counter = (if st.faultsGood then st.faults.counter else 1) ∧
      t.faults.full = (st.faultsGood && st.faults.full) ∧ t.faults.cursor = 0 ∧
      t.faults.service = false ∧ t.outputs.service = false ∧ t.gauges.service = false ∧
      (∀ i, i < 40 ∨ (52 ≤ i ∧ i < 64) → t.sig i = record (tget im.signals i)) ∧
      t.repeater = ⟨im.kOut, none, false, none⟩ ∧
      (∀ w, w < 32 → t.warn w = ⟨tget im.warnings w, .inactive, false, [false, false, false, false], false, false, none,
        none, false⟩) ∧
      t.warnings.activation = [] ∧ t.warnings.attention = [] ∧ t.warnings.blink = 0 ∧
      t.chime.requests = [] ∧ t.chime.state = .idle ∧ t.chime.sounding = none ∧ t.chime.phase = none ∧
      t.chime.badRun = none ∧ t.chime.fault = none ∧ t.chime.goodRun = none ∧ t.chime.output = 0 ∧
      t.doors.permission = false ∧ t.doors.stop = .none ∧ t.doors.interlockFault = false ∧
      t.link.rx = none ∧ t.link.slots = [] ∧ t.link.busy = [] ∧ t.link.replies = [] ∧ t.link.reports = [] ∧
      t.link.tx = none ∧ t.link.enabled = 0#16 ∧ t.link.badFrame = false ∧ t.link.reportsLost = false ∧
      t.link.lostCount = 0 ∧ t.link.resetPending = false
    let sleeps (cause : ResetCause) (t : State) : Prop :=
      t.power.mode = .sleep ∧ loaded cause t ∧ t.power.ignitionTaken = false ∧ t.power.cycles = cycles ∧
      t.handed = reports ∧
      (∀ i, t.committing i = match i with
        | .config => false
        | .counters => !st.countersGood
        | .doorCounts => !st.doorCountsGood
        | .faults => st.faultsGood && st.faults.records.any fun r => r.active && r.code / 4096 != 9) ∧
      (∀ i, i < 64 → t.sig i = record (tget im.signals i)) ∧
      (∀ i, i < 4 → t.chan i = channel i ∧ (t.chan i).capturing = false) ∧
      (∀ i, i < 12 → t.sender i = ⟨tget im.senders i, none, ⟨.clean, none, none⟩, false⟩) ∧
      (∀ k, k < 24 → t.switch k = ⟨tget im.switches k, none, none, ⟨.clean, none, none⟩, false, false⟩) ∧
      t.supply = ⟨false, false, none, none, false, false, false⟩ ∧
      (∀ o, o < 16 → t.out o = ⟨tget im.owners o, false, none, .off, 0, false, false, none, none, none, none, false, false,
        false⟩ ∧ (t.out o).drive = .off) ∧
      t.distance.gate = false ∧ t.distance.refreshOn = false ∧
      (∀ g, g < 6 →
        let y := t.gauge g
        y.cfg = tget im.gauges g ∧ y.state = .unhomed ∧ y.p = 0 ∧ y.s = 0 ∧ y.tracked = none ∧ y.testPos = none ∧
        y.freeze = none ∧ y.coilReported = false ∧ y.motionOn = false ∧ y.updateOn = false ∧ t.coils g = .unpowered) ∧
      t.warnings.blinkOn = false ∧ t.warnings.scanOn = false ∧ t.warnings.proveOut = none ∧
      (∀ n, n < 32 → tget t.warnings.telltales n = ⟨.off, .off⟩) ∧
      (∀ d, d < 4 → t.door d = ⟨tget im.doors d, 8, none, none, false, false, false, counts d, 0⟩) ∧
      t.doors.interlock = false ∧ t.doors.run = .stopped ∧ t.doors.refreshOn = false ∧ t.faults.refreshOn = false
    let runs (cause : ResetCause) (t : State) : Prop :=
      t.power.mode = .run ∧ loaded cause t ∧ t.power.ignitionTaken = true ∧
      t.power.cycles = satSucc nat32Max cycles ∧ t.stores .counters ∧
      ((st.faultsGood = false ∨ ∀ r ∈ st.faults.records, r.active = true → r.code / 4096 = 9) →
        st.countersGood = false ∨ st.doorCountsGood = true →
        t.power.writing = some ⟨.counters ⟨t.distance.record, t.power.cycles⟩, 8⟩) ∧ (∃ more, t.handed = reports ++ more) ∧
      (∀ i, i < 4 → t.chan i = (channel i).start) ∧
      (∀ i, i < 12 → t.sender i = ⟨tget im.senders i, none, ⟨.clean, none, none⟩, (tget im.senders i).enable⟩) ∧
      (∀ k, k < 24 → t.switch k = ⟨tget im.switches k, none, none, ⟨.clean, none, none⟩, true, false⟩) ∧
      t.supply = ⟨false, false, none, none, false, false, true⟩ ∧
      (∀ o, o < 16 →
        let y := t.out o
        y.owner = tget im.owners o ∧ y.force = none ∧ y.state = (if y.request then .on else .off) ∧ y.shortCount = 0 ∧
        y.shortProven = false ∧ y.cut = false ∧ y.retryOn = false ∧ y.senseOn = true ∧
        y.request = t.ownerRequest y.owner) ∧
      (∀ g, g < 6 →
        let y := t.gauge g
        y.cfg = tget im.gauges g ∧ y.state = .homing ∧ y.p = y.cfg.pmax ∧ y.s = 0 ∧ y.tracked = none ∧
        y.testPos = none ∧ y.freeze = none ∧ y.coilReported = false ∧ t.coils g = .driven) ∧
      t.warnings.proveOut = some t.clock ∧ (∀ n, n < 32 → tget t.warnings.telltales n = ⟨.off, .steady⟩) ∧
      (DoorInputLaw s → ∀ d, d < 4 →
        t.door d = ⟨tget im.doors d, (t.door d).code, none, none, false, false, false, counts d, 0⟩)
    let ready : Prop := s.powered = true ∧ s.link.resetPending = true ∧ s.link.replies = [] ∧ s.link.tx = none ∧
      (∀ y ∈ s.link.slots, y.stage ≠ .deferred) ∧ s.power.commit = [] ∧ s.power.writing = none
    (s.powered = true → ∀ fell t0, exec (.partStart fell t0) s = .next (s.setClock (max s.clock t0))) ∧
    (s.powered = false → ∀ fell t0, ∃ t, exec (.partStart fell t0) s = .next t ∧ t.clock = max s.clock t0 ∧
      t.link.rate = t.link.rateCfg ∧
      (s.power.ignitionPin = false → sleeps (if s.power.brownOut ∧ fell = false then .brownOut else .powerOn) t) ∧
      (s.power.ignitionPin = true → runs (if s.power.brownOut ∧ fell = false then .brownOut else .powerOn) t)) ∧
    (ready → ∃ t, exec .resetRestart s = .next t ∧ t.clock = s.clock ∧ t.link.rate = s.link.rate ∧
      (s.power.ignitionPin = false → sleeps .request t) ∧ (s.power.ignitionPin = true → runs .request t)) ∧
    (s.link.resetPending = false ∨ s.link.replies ≠ [] ∨ s.link.tx ≠ none ∨ (∃ y ∈ s.link.slots, y.stage = .deferred) ∨
      s.power.commit ≠ [] ∨ s.power.writing ≠ none → exec .resetRestart s = .next s)

/-- A change of the ignition line starts the 50 ms filter while the line differs from the level taken, and drops it
when the line is back (R180). An ignition on taken in SLEEP is a RUN entry: the count rises, the counter record is
queued, the configuration stays and every block restarts: records FAILED, channels, senders and switches afresh,
gauges homing, warnings INACTIVE under a running prove-out, nothing sounding, no permission and no stop request, short
counts 0 and no lockout, the service mode off (R16, R37, R46, R51, R62, R95, R115, R118, R132, R152, R167, R180).
POWER_CHANGE is offered with the new count, and TELLTALE_CHANGE for every telltale that prove-out changes; a logged
warning's EVENT is reported inactive (R112, R113, R180); of the link nothing but its report queue changes (R178). That
records 40 to 44 and 51 are VALID right after it is the model's reading (log 28, DEDUCED). -/
def Obligations.RunEntryRestartsBlocks : Prop :=
  ∀ (s : State) (t0 : Nat),
    (∀ on, exec (.ignitionChange on t0) s = .next ((s.setClock (max s.clock t0)).setPower { s.power with
      ignitionPin := on, filterOn := s.powered && (on != s.power.ignitionTaken) })) ∧
    (s.power.filterOn = false → exec (.ignitionFilterExpiry t0) s = .next (s.setClock (max s.clock t0))) ∧
    (s.power.mode = .sleep → s.power.filterOn = true → s.power.ignitionPin = true →
      ∃ t, exec (.ignitionFilterExpiry t0) s = .next t ∧
        t.clock = max s.clock t0 ∧ t.pending = s.pending ∧ t.store = s.store ∧ t.image = s.image ∧
        t.power.mode = .run ∧ t.power.ignitionTaken = true ∧ t.power.filterOn = false ∧
        t.power.cycles = satSucc nat32Max s.power.cycles ∧ t.stores .counters ∧
        (∀ i, i < 40 ∨ (52 ≤ i ∧ i < 64) → t.sig i = { SigRec.powerOn (s.sig i).cfg with flags := (s.sig i).flags }) ∧
        (∀ i, i = 51 ∨ (40 ≤ i ∧ i ≤ 44) → (t.sig i).quality = .valid ∧ (t.sig i).age = 0) ∧
        (∀ i, i < 4 → t.chan i = (s.chan i).start) ∧ t.repeater = Repeater.powerOn s.repeater.kOut ∧
        (∀ i, i < 12 → t.sender i = { Sender.powerOn (s.sender i).cfg with sampleOn := (s.sender i).cfg.enable }) ∧
        (∀ i, i < 24 → t.switch i = { SwitchIn.powerOn (s.switch i).cfg with sampleOn := true }) ∧
        t.supply = { Supply.powerOn with measureOn := true } ∧
        (∀ o, o < 16 → (t.out o).shortCount = 0 ∧ (t.out o).state ≠ .lockedOut ∧ (t.out o).senseOn = true ∧
          (t.out o).request = t.ownerRequest (t.out o).owner) ∧
        t.distance.record = s.distance.record ∧ t.distance.refreshOn = true ∧ t.distance.gate = (t.sig 50).isActive ∧
        (∀ g, g < 6 → (t.gauge g).state = .homing ∧ (t.gauge g).p = (s.gauge g).cfg.pmax ∧ (t.gauge g).s = 0 ∧
          (t.gauge g).tracked = none ∧ (t.gauge g).freeze = none) ∧
        (∀ w, w < 32 → (t.warn w).state = .inactive ∧ (t.warn w).acked = false) ∧ t.warnings.activation = [] ∧
        t.warnings.attention = [] ∧ t.warnings.blink = 0 ∧ t.warnings.proveOut = some t.clock ∧
        (∀ n, n < 32 → tget t.warnings.telltales n = ⟨.off, .steady⟩) ∧
        t.chime.state = .idle ∧ t.chime.requests = [] ∧ t.chime.sounding = none ∧
        t.doors.permission = false ∧ t.doors.stop = .none ∧ t.doors.interlock = (t.doors.run != .complete) ∧
        t.faults = { s.faults with service := false, refreshOn := true } ∧
        s.keepsLinkButReports t ∧ s.offers ⟨.powerChange, 0, .power .run t.power.cycles⟩ t ∧
        (∀ n, n < 32 → tget s.warnings.telltales n ≠ ⟨.off, .steady⟩ →
          s.offers ⟨.telltaleChange, n, .telltale n .steady .off true⟩ t) ∧
        (∀ w, w < 32 → (s.warn w).cfg.log = true → .faultInactive (faultCode .warning w .event) ∈ t.handed))

/-- An ignition off taken in RUN is an AFTERRUN entry: gauges that track, sweep or test park by their park flags, the
interlock is released, the hours gate closes, the service mode ends with its forces, and the three items are queued;
the mark stands while a gauge is still to park (R14, R71, R85, R153, R166, R181). An ignition on taken in AFTERRUN is
a return: parked gauges home, parking ones track again, the interlock is decided afresh, and count, healing and
commits stay (R87, R153, R182). Both offer POWER_CHANGE with the unchanged count, and the end of a service mode
SERVICE_CHANGE (R167, R181, R182). An ignition off taken in SLEEP changes nothing else (R180). That the park flag
counts as the entry found it (log 26, DEDUCED), and that a gauge in SWEEP or TEST stays as it is at the return (log
31), is the model's. The AFTERRUN timer's expiry completes AFTERRUN whatever remains, and so does the first event
after which no gauge is still to park and nothing waits or is being written (R181). The completion is the ignition
cycle end: every PASSIVE record heals by one and is erased at the limit, each with FAULT_CHANGE, ACTIVE ones stay
(R159, R160; codes differ by `FaultRecordsLaw`). SLEEP follows: records FAILED, nothing forced, outputs off with
lockouts kept, nothing sounding, warnings INACTIVE, gauges unpowered, permission and interlock released, channels,
senders and switches stopped with judgements CLEAN, doors without mark or timer (R16, R38, R46, R51, R62, R86, R118,
R132, R153). Every fault that stands in a block is reported inactive, and a report of each change is offered (R61,
R94, R116, R181). The cut mark's clearing (log 23, DEDUCED), the stop of a complete secured run (log 51) and that an
INACTIVE warning withdraws no chime (log 53) are the model's. -/
def Obligations.AfterrunEntersReturnsAndEnds : Prop :=
  (∀ (s : State) (t0 : Nat), s.power.filterOn = true →
     let keepsStores (t : State) : Prop :=
       t.clock = max s.clock t0 ∧ t.pending = s.pending ∧ t.store = s.store ∧ t.image = s.image ∧
       t.power.cycles = s.power.cycles ∧ t.faults.records = s.faults.records ∧ t.distance.record = s.distance.record ∧
       t.power.ignitionTaken = s.power.ignitionPin ∧ t.power.filterOn = false ∧
       t.distance.gate = (t.power.mode == .run && (t.sig 50).isActive) ∧
       s.keepsLinkButReports t ∧ s.offers ⟨.powerChange, 0, .power t.power.mode t.power.cycles⟩ t
     (s.power.mode = .run → s.power.ignitionPin = false → ∃ t, exec (.ignitionFilterExpiry t0) s = .next t ∧
       keepsStores t ∧ t.power.mode = .afterrun ∧ t.power.afterrunOn = true ∧ t.power.parkingPending = t.someToPark ∧
       t.doors.interlock = false ∧ t.faults.service = false ∧
       (∀ i, i = .counters ∨ i = .doorCounts ∨ i = .faults → t.stores i) ∧
       (s.faults.service = true → (∀ i, i < 64 → (t.sig i).forced = false) ∧
         s.offers ⟨.serviceChange, 0, .service false⟩ t) ∧
       ∀ g, g < 6 →
         let x := { s.gauge g with parks := (s.gauge g).cfg.park }
         t.gauge g = if x.parks = true ∧ (x.state = .tracking ∨ x.state = .sweep ∨ x.state = .test)
           then { x with state := .parking, testPos := none } else x) ∧
     (s.power.mode = .afterrun → s.power.ignitionPin = true → ∃ t, exec (.ignitionFilterExpiry t0) s = .next t ∧
       keepsStores t ∧ t.power.mode = .run ∧ t.power.afterrunOn = false ∧ t.power.parkingPending = false ∧
       t.power.commit = s.power.commit ∧ t.power.writing = s.power.writing ∧
       t.doors.interlock = (!t.doors.overrideRead && t.doors.run != .complete) ∧ t.doors.run = s.doors.run ∧
       ∀ g, g < 6 → t.gauge g = match (s.gauge g).state with
         | .parked => if s.supply.underLimit then (s.gauge g).lose else (s.gauge g).home
         | .parking => { s.gauge g with state := .tracking }
         | _ => s.gauge g) ∧
     (s.power.mode = .sleep → s.power.ignitionPin = false → exec (.ignitionFilterExpiry t0) s = .next
       ((s.setClock (max s.clock t0)).setPower { s.power with ignitionTaken := false, filterOn := false }))) ∧
  (∀ (s : State), FaultRecordsLaw s.faults.records →
     let cleaned (w : Wiring) : Wiring :=
       if w.judgement = .faultOpen ∨ w.judgement = .faultShort then ⟨.clean, none, none⟩ else w
     let ended (c : FaultClass) (i : Nat) (w : Wiring) (t : State) : Prop :=
       (w.judgement = .faultOpen → .faultInactive (faultCode c i .opened) ∈ t.handed) ∧
       (w.judgement = .faultShort → .faultInactive (faultCode c i .shorted) ∈ t.handed)
     (s.power.mode ≠ .afterrun ∨ s.power.afterrunOn = false → exec .afterrunTimerExpiry s = .next s) ∧
     (s.power.mode = .afterrun → ∃ t,
       (s.power.afterrunOn = true → exec .afterrunTimerExpiry s = .next t) ∧
       settleAfterrun s = (if s.afterrunDone then t else s) ∧
       t.clock = s.clock ∧ t.pending = s.pending ∧ t.store = s.store ∧ t.image = s.image ∧
       t.power.mode = .sleep ∧ t.power.afterrunOn = false ∧ t.power.cycles = s.power.cycles ∧
       t.faults.records = (s.faults.records.filterMap fun r =>
         if r.active then some r
         else if s.faults.healLimit ≤ satSucc 255 r.healing then none
         else some { r with healing := satSucc 255 r.healing }) ∧
       ((∃ r ∈ s.faults.records, r.active = false) → t.stores .faults) ∧
       (∀ i, i < 64 → t.sig i = { s.sig i with
         quality := .failed, forced := false, hold := ⟨false, (s.sig i).hold.elapsed⟩,
         refresh := ⟨false, (s.sig i).refresh.elapsed⟩ }) ∧
       (∀ o, o < 16 → (t.out o).state = (if (s.out o).state = .lockedOut then .lockedOut else .off) ∧
         (t.out o).request = false ∧ (t.out o).force = none ∧ (t.out o).cut = false ∧
         (t.out o).shortCount = (s.out o).shortCount ∧ (t.out o).shortProven = (s.out o).shortProven) ∧
       (∀ i, i < 4 → (t.chan i).capturing = false ∧ t.chan i = { s.chan i with
         windowTimer := none, biasOn := false, wiring := cleaned (s.chan i).wiring }) ∧
       (∀ i, i < 12 → t.sender i = { s.sender i with sampleOn := false, wiring := cleaned (s.sender i).wiring }) ∧
       (∀ k, k < 24 → t.switch k = { s.switch k with
         sampleOn := false, refreshOn := false, wiring := cleaned (s.switch k).wiring }) ∧
       (∀ d, d < 4 → t.door d = { s.door d with
           travel := none, implausTimer := none, stuck := false, implausible := false } ∧
         ((s.door d).stuck = true → .faultInactive (faultCode .door d .stuck) ∈ t.handed) ∧
         ((s.door d).implausible = true → .faultInactive (faultCode .door d .implausible) ∈ t.handed)) ∧
       (∀ o, o < 16 →
         ((s.out o).state = .openLoad → .faultInactive (faultCode .output o .opened) ∈ t.handed) ∧
         ((s.out o).state = .supplyShort → .faultInactive (faultCode .output o .supplyShort) ∈ t.handed) ∧
         ((s.out o).state ≠ .off → (s.out o).state ≠ .lockedOut →
           s.offers ⟨.outputState, o, .output o .off false (s.out o).shortCount⟩ t ∧
           ((s.out o).owner = .interlock → .interlockOutput ∈ t.handed))) ∧
       (∀ g, g < 6 → ((s.gauge g).state = .fault → .faultInactive (faultCode .gauge g .coilOpen) ∈ t.handed) ∧
         ((s.gauge g).state ≠ .parked → (s.gauge g).state ≠ .unhomed →
           s.offers ⟨.gaugeState, g, .gauge g .unhomed 0⟩ t)) ∧
       (s.supply.reported = true → .faultInactive (faultCode .supply 0 .underVoltage) ∈ t.handed) ∧
       (s.chime.fault = some .opened → .faultInactive (faultCode .tone 0 .opened) ∈ t.handed) ∧
       (s.chime.fault = some .shorted → .faultInactive (faultCode .tone 0 .shorted) ∈ t.handed) ∧
       (∀ w, w < 32 → (s.warn w).cfg.log = true → (s.warn w).state ∈ [WState.active, .offDelay, .latched] →
         .faultInactive (faultCode .warning w .event) ∈ t.handed) ∧
       (∀ w, w < 32 → (s.warn w).state ≠ .inactive → ∀ p m, (s.warn w).cfg.chime = some (p, m) → m ≠ .endless →
         .chimeWithdraw (.warning w) ∈ t.handed) ∧
       (∀ r ∈ s.faults.records, r.active = false →
         let n := satSucc 255 r.healing
         s.offers ⟨.faultChange, r.code, .fault r.code (if s.faults.healLimit ≤ n then .erased else .passive)
           r.occurrences n r.seq⟩ t) ∧
       (∀ i, i < 4 → ended .pulse i (s.chan i).wiring t) ∧ (∀ i, i < 12 → ended .sender i (s.sender i).wiring t) ∧
       (∀ k, k < 24 → ended .switch k (s.switch k).wiring t) ∧
       t.repeater = Repeater.powerOn s.repeater.kOut ∧ t.supply = Supply.powerOn ∧
       t.distance.record = s.distance.record ∧ t.distance.gate = false ∧
       (∀ g, g < 6 → (t.gauge g).p = 0 ∧ (t.gauge g).s = 0 ∧ (t.gauge g).tracked = none ∧
         ((t.gauge g).state = if (s.gauge g).state = .parked then .parked else .unhomed) ∧ t.coils g = .unpowered) ∧
       (∀ w, w < 32 → (t.warn w).state = .inactive) ∧ t.warnings.activation = [] ∧ t.warnings.attention = [] ∧
       t.chime.state = .idle ∧ t.chime.requests = [] ∧ t.chime.fault = none ∧
       t.doors.permission = false ∧ t.doors.interlock = false ∧ t.doors.stop = .none ∧ t.doors.run = .stopped ∧
       t.faults.service = false ∧
       s.keepsLinkButReports t ∧ s.offers ⟨.powerChange, 0, .power .sleep t.power.cycles⟩ t ∧
       (∀ w, w < 32 → (s.warn w).state ≠ .inactive →
         s.offers ⟨.warningChange, w, .warning w .inactive false (s.warn w).configChain⟩ t) ∧
       (s.warnings.attention ≠ [] → s.offers ⟨.attentionChange, 0, .attention none 0⟩ t) ∧
       (∀ n, n < 32 → tget t.warnings.telltales n = ⟨.off, .off⟩ ∧ (tget s.warnings.telltales n ≠ ⟨.off, .off⟩ →
         s.offers ⟨.telltaleChange, n, .telltale n .off .off false⟩ t)) ∧
       (s.doors.stop ≠ .none → s.offers ⟨.stopRequestChange, 0, .stopRequest .none⟩ t) ∧
       (s.doors.permission = true ∨ s.doors.interlock = true →
         s.offers ⟨.doorChange, 4, .doorShared false false t.doors.interlockFault⟩ t)))

/-- The supply below the brown-out threshold holds every block in its power-on state, outputs off, without AFTERRUN
work; a write in flight leaves its item with a bad check, and the other items keep their last contents (R52, R179,
R183), also the image of a CONFIG_SAVE whose write has not begun, which is the model's choice between R183 and R185
(log 46), as is that hand-offs not yet taken are dropped (log 49). A completed write stores what it carries with a
good check, and the head of the list begins: each item carries what it holds at that moment and takes 60, 8, 8 or 12
ms, the last for each record held. The completion of a configuration image sets the validity GOOD, reports CONFIG_LOST
inactive, and answers the CONFIG_SAVE that waits for it with its tag. An item asked for while it waits keeps its place
(R183, R185). AFTERRUN may end with it (R181). That the inactive report goes out at every such completion, where R185
reports it only if CONFIG_LOST stands active, is the model's choice (log 24). -/
def Obligations.StoreWritesCompleteOrBreak : Prop :=
  (∀ (s : State),
     (s.powered = false → exec .brownOut s = .next s) ∧
     (s.powered = true → ∃ t, exec .brownOut s = .next t ∧
       t = (State.unpowered t.store s.power.ignitionPin (tmap PulseChan.pin s.pulse) s.clock s.pending).setPower
         { Power.off s.power.ignitionPin with brownOut := true } ∧
       (∀ o, o < 16 → (t.out o).drive = .off) ∧
       t.store.config = s.store.config ∧ t.store.counters = s.store.counters ∧
       t.store.doorCounts = s.store.doorCounts ∧ t.store.faults = s.store.faults ∧
       (s.power.writing = none → t.store = s.store) ∧
       ∀ w, s.power.writing = some w →
         t.store.configGood = (s.store.configGood && w.data.item != .config) ∧
         t.store.countersGood = (s.store.countersGood && w.data.item != .counters) ∧
         t.store.doorCountsGood = (s.store.doorCountsGood && w.data.item != .doorCounts) ∧
         t.store.faultsGood = (s.store.faultsGood && w.data.item != .faults))) ∧
  (∀ (s : State),
     let began (t : State) : Prop := match s.power.commit with
       | [] => t.power.commit = [] ∧ t.power.writing = none
       | i :: rest => t.power.commit = rest ∧ t.power.writing = some (match i with
         | .config => ⟨.config s.image, 60⟩
         | .counters => ⟨.counters ⟨s.distance.record, s.power.cycles⟩, 8⟩
         | .doorCounts => ⟨.doorCounts (tmap Door.cycles s.doors.doors), 8⟩
         | .faults => ⟨.faults ⟨s.faults.records, s.faults.counter, s.faults.full⟩, 12 * max 1 s.faults.records.length⟩)
     (s.power.writing = none → exec .storeWriteComplete s = .next s ∧ began (serve s)) ∧
     (∀ i, (i ∈ s.power.commit → enqueue i s = s) ∧
       (i ∉ s.power.commit → enqueue i s = s.setPower { s.power with commit := s.power.commit ++ [i] })) ∧
     (∀ w, s.power.writing = some w → ∃ t, exec .storeWriteComplete s = .next (settleAfterrun t) ∧ began t ∧
       (match w.data with
         | .config im => t.store = { s.store with config := im, configGood := true }
         | .counters im => t.store = { s.store with counters := im, countersGood := true }
         | .doorCounts xs => t.store = { s.store with doorCounts := xs, doorCountsGood := true }
         | .faults im => t.store = { s.store with faults := im, faultsGood := true }) ∧
       (w.data.item ≠ .config → s.keepsAllBut [.power, .store] t) ∧
       (w.data.item = .config → s.keepsAllBut [.power, .store, .link, .handed] t ∧ t.power.configGood = true ∧
         t.power.saving = none ∧ t.handed = s.handed ++ [.faultInactive (faultCode .store 0 .configLost)] ∧
         (s.power.saving = none → t.link = s.link) ∧
         ∀ n tag x, s.power.saving = some (n, tag) → s.link.slots.find? (·.serial == n) = some x →
           t.link = (s.link.answer x .ok (.tag tag) none).handNext)))

/-- CONFIG_SAVE is refused with BUSY while an earlier one awaits its completion. Otherwise its tag becomes that of the
working configuration, the image is queued, and the request is DEFERRED without a reply while the next one is handed
on; with nothing being written and nothing waiting the write of the image begins with the new tag (R171, R183, R185).
CONFIG_DEFAULTS, taken in every mode, puts the factory configuration of every block into force, with tag 0; the line
rate in force, the store and the validity stay. Every chime request is gone, nothing sounds and no tail runs (R186);
with every warning disabled none is shown, and no output has an owner or a force. AFTERRUN may end with it (R181). The
order in which the blocks take their parts is the model's choice (log 45). -/
def Obligations.ConfigurationIsSavedAndRestored : Prop :=
  (∀ (s : State) (x : Slot) (tag : Tag32), s.asks 0x05#8 x →
     (s.power.saving ≠ none → exec (.configSave .good tag) s = .next (s.replied x .busy)) ∧
     (s.power.saving = none → ∃ t, exec (.configSave .good tag) s = .next t ∧ s.keepsAllBut [.power, .link] t ∧
       t.power.tag = tag ∧ t.power.saving = some (x.serial, tag) ∧ t.stores .config ∧
       t.link = Link.handNext { s.link with
         slots := s.link.slots.map fun y => if y.serial = x.serial then { y with stage := .deferred } else y } ∧
       (s.power.writing ≠ none → t.power.writing = s.power.writing ∧
         t.power.commit = if s.power.commit.contains .config then s.power.commit else s.power.commit ++ [.config]) ∧
       (s.power.writing = none → s.power.commit = [] →
         t.power.commit = [] ∧ t.power.writing = some ⟨.config { s.image with tag := tag }, 60⟩))) ∧
  (∀ (s : State) (x : Slot), s.asks 0x06#8 x → x.body = [] →
     ∃ u : State, exec .configDefaults s = .next (settleAfterrun (u.replied x .ok)) ∧
       u.image = ConfigImage.factory ∧ u.store = s.store ∧ u.clock = s.clock ∧ u.pending = s.pending ∧
       u.power = { s.power with
         tag := 0#32, parkingPending := u.power.parkingPending, commit := u.power.commit, writing := u.power.writing } ∧
       u.link.rate = s.link.rate ∧ u.link.slots = s.link.slots ∧ u.link.replies = s.link.replies ∧
       u.chime.state = .idle ∧ u.chime.requests = [] ∧ u.chime.sounding = none ∧ u.chime.phase = none ∧
       (∀ w, w < 32 → (u.warn w).state = .inactive) ∧
       (∀ o, o < 16 → (u.out o).force = none ∧ (u.out o).request = false))

/-- What the four writes of a source do to its record (R2 to R5, R9), by quality and hold limit: a fresh write clamps,
sets VALID and age 0, stops the hold timer and adds flags without clearing one; a loss takes VALID to HELD, or past it
with hold limit 0, and leaves the hold timer of a HELD record running; a failure may carry a value, clamped without a
flag; a flag setting touches neither value nor quality. A forced record takes none of them (R13). A record put into
the table changes that record alone; a flag that rises offers SIGNAL_FLAGS when the record's report is enabled (R9); a
write or change of record 12 is handed to the door supervisor and the repeater, of a switch record to every door it is
assigned to (fitted or not, by the model's choice, log 58), of the PARKING_BRAKE or OVERRIDE record, when it changed,
to their takers, and an active edge that came by a write to the ACK, STOP_REQ or ASSIST_REQ taker; record 50 sets the
hours gate (R8, R28, R35, R50, R71, R135, R144, R146). Nothing else of the part changes. -/
def Obligations.RecordsTakeTheirWrites : Prop :=
  (∀ (s : State) (i : Nat) (v : Int) (ask f : SigFlags) (lost : Bool), i < 64 →
     let r := s.sig i
     let lo := r.cfg.rangeMin
     let hi := r.cfg.rangeMax
     (r.forced = true → writeFreshWith i v ask s = s ∧ declareLoss i lost s = s ∧ declareFailure i (some v) s = s ∧
       (setFlags i f s).signals = s.signals) ∧
     (r.forced = false → lo ≤ hi →
       writeFreshWith i v ask s = putRec i { r with
         value := if v < lo then lo else if hi < v then hi else v, quality := .valid, age := 0, hold := ⟨false, 0⟩,
         flags := ⟨r.flags.overLimit || ask.overLimit || decide (hi < v), r.flags.underLimit || ask.underLimit || decide (v < lo),
           r.flags.lost || ask.lost, r.flags.implausible || ask.implausible⟩ } true s ∧
       (∀ q, r.quality = q → declareLoss i lost s = putRec i (match q with
         | .valid =>
           let r1 := { r with flags := { r.flags with lost := r.flags.lost || lost } }
           if 0 < r.cfg.holdLimit then { r1 with quality := .held, hold := ⟨true, 0⟩ }
           else match r.cfg.substitute with
             | some u => { r1 with value := u, quality := .substitute, hold := ⟨false, 0⟩ }
             | none => { r1 with quality := .failed, hold := ⟨false, 0⟩ }
         | _ => { r with flags := { r.flags with lost := r.flags.lost || lost } }) true s) ∧
       declareFailure i none s = putRec i { r with quality := .failed, hold := ⟨false, 0⟩ } true s ∧
       declareFailure i (some v) s = putRec i { r with
         value := if v < lo then lo else if hi < v then hi else v, quality := .failed, hold := ⟨false, 0⟩ } true s ∧
       setFlags i f s = putRec i { r with
         flags := ⟨r.flags.overLimit || f.overLimit, r.flags.underLimit || f.underLimit, r.flags.lost || f.lost,
           r.flags.implausible || f.implausible⟩ } false s)) ∧
  (∀ (s : State) (i : Nat) (r : SigRec) (write : Bool), i < 64 →
     let old := s.sig i
     let t := putRec i r write s
     let changed : Bool := old.value != r.value || old.quality != r.quality
     let edge : Bool := write && old.quality == .valid && old.value == 0 && r.quality == .valid && r.value == 1
     s.keepsAllBut [.signals, .link, .handed, .distance] t ∧
     (∀ j, j < 64 → t.sig j = if j = i then r else s.sig j) ∧
     (let rose : Bool := (r.flags.overLimit && !old.flags.overLimit) || (r.flags.underLimit && !old.flags.underLimit) ||
         (r.flags.lost && !old.flags.lost) || (r.flags.implausible && !old.flags.implausible)
      t.link = if r.cfg.reportOnFlag && rose then s.link.offer .signalFlags i (.signalFlags i r.flags) else s.link) ∧
     t.distance = (if i = 50 then { s.distance with gate := s.power.mode == .run && r.quality == .valid && r.value == 1 }
       else s.distance) ∧
     (i = 12 → t.handed = s.handed ++ if write || changed then [.release, .repeater] else []) ∧
     (i < 12 ∨ (12 < i ∧ i < 16) ∨ 40 ≤ i → t.handed = s.handed) ∧
     ∀ k, k < 24 → i = 16 + k → t.handed = s.handed ++
       (if write || changed then
         (([0, 1, 2, 3] : List (Fin 4)).filter fun (d : Fin 4) => doorAssigns (s.door d.val).cfg k).map Handoff.doorInput
        else []) ++
       (match (s.switch k).cfg.role with
         | .ack => if edge then [.ackEdge] else []
         | .stopReq => if edge then [.stopEdge false] else []
         | .assistReq => if edge then [.stopEdge true] else []
         | .parkingBrake => if changed then [.release, .brakeChange (r.quality == .valid && r.value == 1)] else []
         | .override => if changed then [.overrideChange] else []
         | .none => []))

/-- SIGNAL_PUT: a number above 63 is RANGE, one of the part's own records PROTECTED, in SLEEP CONDITIONS; a VALID put
stores the value, clamped with OVER or UNDER and ADJUSTED when it lies outside the range, a FAILED put fails the slot
with its value kept; either starts the slot's refresh timer anew, or stops it with limit 0. On a forced slot only the
timer restarts (R1, R10). SIGNAL_READ answers 1 to 12 entries of nine bytes in the order named, from one instant, and
changes no record (R12). SIGNAL_FORCE is judged by the service mode (record 51), then protection, then range; it
stores the value VALID at age 0 with the mark. SIGNAL_RELEASE leaves the record FAILED with its value, and changes
nothing on a record without a force (R13, R14). SIGNAL_CLEAR_FLAGS clears the flags named, of one record or of all,
and offers no report (R9). That a number above 63 is answered RANGE before the service mode is judged is the model's
choice (log 14). -/
def Obligations.SignalRequestsAreTaken : Prop :=
  (∀ (s : State) (x : Slot),
     (s.asks 0x11#8 x → ∀ i v q,
       (63 < i → exec (.signalPut .good i v q) s = .next (s.replied x .range)) ∧
       (i < 52 → exec (.signalPut .good i v q) s = .next (s.replied x .refusedProtected)) ∧
       (52 ≤ i → i ≤ 63 → s.active = false → exec (.signalPut .good i v q) s = .next (s.replied x .conditions)) ∧
       (52 ≤ i → i ≤ 63 → s.active = true →
         let r := s.sig i
         let timer : Timer := if r.cfg.refreshLimit = 0 then ⟨false, 0⟩ else ⟨true, 0⟩
         let lo := r.cfg.rangeMin
         let hi := r.cfg.rangeMax
         (r.forced = true → exec (.signalPut .good i v q) s =
           .next ((putRec i { r with refresh := timer } true s).replied x .ok)) ∧
         (r.forced = false → exec (.signalPut .good i v .failed) s = .next
           ((putRec i { r with quality := .failed, hold := ⟨false, 0⟩, refresh := timer } true s).replied x .ok)) ∧
         (r.forced = false → lo ≤ v → v ≤ hi → exec (.signalPut .good i v .valid) s = .next
           ((putRec i { r with value := v, quality := .valid, age := 0, hold := ⟨false, 0⟩, refresh := timer } true
             s).replied x .ok)) ∧
         (r.forced = false → hi < v → lo ≤ hi → exec (.signalPut .good i v .valid) s = .next
           ((putRec i { r with value := hi, quality := .valid, age := 0, hold := ⟨false, 0⟩, refresh := timer,
                               flags := { r.flags with overLimit := true } } true s).replied x .adjusted)) ∧
         (r.forced = false → v < lo → lo ≤ hi → exec (.signalPut .good i v .valid) s = .next
           ((putRec i { r with value := lo, quality := .valid, age := 0, hold := ⟨false, 0⟩, refresh := timer,
                               flags := { r.flags with underLimit := true } } true s).replied x .adjusted)))) ∧
     (s.asks 0x10#8 x →
       (x.body = [] ∨ 12 < x.body.length → exec .signalRead s = .next (s.replied x .badLength)) ∧
       (1 ≤ x.body.length → x.body.length ≤ 12 → (∃ b ∈ x.body, 63 < b.toNat) →
         exec .signalRead s = .next (s.replied x .range)) ∧
       (1 ≤ x.body.length → x.body.length ≤ 12 → (∀ b ∈ x.body, b.toNat ≤ 63) →
         exec .signalRead s = .next (s.replied x .ok (.bytes (x.body.flatMap fun b =>
           let r := s.sig b.toNat
           let bit (on : Bool) (n : Nat) := if on then n else 0
           [b, BitVec.ofNat 8 (match r.quality with | .valid => 0 | .held => 1 | .substitute => 2 | .failed => 3),
             BitVec.ofNat 8 (bit r.flags.overLimit 1 + bit r.flags.underLimit 2 + bit r.flags.lost 4 + bit r.flags.implausible 8 +
               bit (r.flags.overLimit || r.flags.underLimit || r.flags.lost || r.flags.implausible) 16 + bit r.forced 32)] ++
             ([0, 1, 2, 3].map fun k => BitVec.ofInt 8 (r.value / 256 ^ k)) ++
             [BitVec.ofNat 8 r.age, BitVec.ofNat 8 (r.age / 256)])))))) ∧
  (∀ (s : State) (x : Slot) (i : Nat),
     (63 < i → ∀ v f,
       (s.asks 0x14#8 x → exec (.signalForce .good i v) s = .next (s.replied x .range)) ∧
       (s.asks 0x15#8 x → exec (.signalRelease .good i) s = .next (s.replied x .range)) ∧
       (s.asks 0x13#8 x → exec (.signalClearFlags .good (some i) f) s = .next (s.replied x .range))) ∧
     (i ≤ 63 →
       let r := s.sig i
       let serviceOn : Prop := (s.sig 51).quality = .valid ∧ (s.sig 51).value = 1
       let shielded : Prop := i = 12 ∨ (40 ≤ i ∧ i < 52) ∨ ∃ k, k < 24 ∧ i = 16 + k ∧
         ((s.switch k).cfg.role = .parkingBrake ∨ ∃ d, d < 4 ∧ doorAssigns (s.door d).cfg k = true)
       (s.asks 0x14#8 x → ∀ v,
         (¬serviceOn → exec (.signalForce .good i v) s = .next (s.replied x .conditions)) ∧
         (serviceOn → shielded → exec (.signalForce .good i v) s = .next (s.replied x .refusedProtected)) ∧
         (serviceOn → ¬shielded → v < r.cfg.rangeMin ∨ r.cfg.rangeMax < v →
           exec (.signalForce .good i v) s = .next (s.replied x .range)) ∧
         (serviceOn → ¬shielded → r.cfg.rangeMin ≤ v → v ≤ r.cfg.rangeMax → exec (.signalForce .good i v) s = .next
           ((putRec i { r with value := v, quality := .valid, age := 0, hold := ⟨false, 0⟩, forced := true } true
             s).replied x .ok))) ∧
       (s.asks 0x15#8 x →
         (r.forced = false → exec (.signalRelease .good i) s = .next (s.replied x .ok)) ∧
         (r.forced = true → exec (.signalRelease .good i) s = .next
           ((putRec i { r with forced := false, quality := .failed } false s).replied x .ok))) ∧
       (s.asks 0x13#8 x → ∀ f,
         let cleared (r : SigRec) : SigRec := { r with flags :=
           ⟨r.flags.overLimit && !f.overLimit, r.flags.underLimit && !f.underLimit, r.flags.lost && !f.lost,
             r.flags.implausible && !f.implausible⟩ }
         (∃ t : State, exec (.signalClearFlags .good (some i) f) s = .next (t.replied x .ok) ∧ s.keepsAllBut [.signals] t ∧
           ∀ j, j < 64 → t.sig j = if j = i then cleared (s.sig i) else s.sig j) ∧
         ∃ t : State, exec (.signalClearFlags .good none f) s = .next (t.replied x .ok) ∧ s.keepsAllBut [.signals] t ∧
           ∀ j, j < 64 → t.sig j = cleared (s.sig j))))

/-- SIGNAL_CONFIG: limits out of order, a substitute outside them or a number above 63 are RANGE; an internal record
takes only the report enable, and only beside its fixed values, else PROTECTED (R7, R15). The limits are clamped with
ADJUSTED, the refresh limit only on host slots. The value is moved into the new range without a flag; a SUBSTITUTE
record takes the new substitute or becomes FAILED; a HELD one that has been held for the new limit leaves HELD; a
running refresh timer restarts, or stops with limit 0, and one that stands stopped stays as it stands (R6, R8). An
internal record, which in every run stands in its range, VALID or FAILED, without a timer, changes in nothing but the
report enable. On record 50 the hours gate is judged by the record as it then stands (R71). That RANGE comes before
PROTECTED, where a request on an internal record fails both tests, is the model's choice (log 14), and so is the count
0 of a refresh timer that a limit of 0 stops (log 41). -/
def Obligations.SignalConfigTakesEffect : Prop :=
  ∀ (s : State) (x : Slot) (i : Nat) (c : SigCfg), s.asks 0x12#8 x →
    let inOrder : Prop := c.rangeMin ≤ c.rangeMax ∧ ∀ v, c.substitute = some v → c.rangeMin ≤ v ∧ v ≤ c.rangeMax
    let r := s.sig i
    let next (c1 : SigCfg) : SigRec :=
      let r1 : SigRec := { r with
        cfg := c1
        value := if r.value < c1.rangeMin then c1.rangeMin else if c1.rangeMax < r.value then c1.rangeMax else r.value
        refresh := if r.refresh.running = false then r.refresh else if c1.refreshLimit = 0 then ⟨false, 0⟩ else ⟨true, 0⟩ }
      match r.quality, c1.substitute with
        | .substitute, some v => { r1 with value := v }
        | .substitute, none => { r1 with quality := .failed }
        | .held, some v =>
          if c1.holdLimit ≤ r.hold.elapsed then { r1 with value := v, quality := .substitute, hold := ⟨false, 0⟩ } else r1
        | .held, none =>
          if c1.holdLimit ≤ r.hold.elapsed then { r1 with quality := .failed, hold := ⟨false, 0⟩ } else r1
        | .valid, _ => r1
        | .failed, _ => r1
    (63 < i ∨ ¬inOrder → exec (.signalConfig .good i c) s = .next (s.replied x .range)) ∧
    (i ≤ 63 → inOrder → 40 ≤ i → i < 52 →
      let fixed := factorySig i
      let c1 := { r.cfg with reportOnFlag := c.reportOnFlag }
      (¬(c.rangeMin = fixed.rangeMin ∧ c.rangeMax = fixed.rangeMax ∧ c.holdLimit = fixed.holdLimit ∧
          c.substitute = fixed.substitute) →
        exec (.signalConfig .good i c) s = .next (s.replied x .refusedProtected)) ∧
      (c.rangeMin = fixed.rangeMin → c.rangeMax = fixed.rangeMax → c.holdLimit = fixed.holdLimit →
        c.substitute = fixed.substitute → ∃ t : State, exec (.signalConfig .good i c) s = .next (t.replied x .ok) ∧
          s.keepsAllBut [.signals, .distance] t ∧
          t = putRec i (next c1) false s ∧ t.sig i = next c1 ∧
          (r.cfg.rangeMin ≤ r.value → r.value ≤ r.cfg.rangeMax → r.quality = .valid ∨ r.quality = .failed →
            r.refresh.running = false → t.sig i = { r with cfg := c1 }) ∧
          (∀ j, j < 64 → j ≠ i → t.sig j = s.sig j) ∧
          t.distance = if i = 50 then { s.distance with
            gate := s.power.mode == .run && (t.sig 50).quality == .valid && (t.sig 50).value == 1 } else s.distance)) ∧
    (i ≤ 63 → inOrder → i < 40 ∨ 52 ≤ i →
      let refresh := if i < 40 then r.cfg.refreshLimit
        else if c.refreshLimit = 0 then 0 else max 50 (min 60000 c.refreshLimit)
      let c1 := { c with holdLimit := min 60000 c.holdLimit, refreshLimit := refresh }
      exec (.signalConfig .good i c) s = .next ((putRec i (next c1) false s).replied x
        (okOr (decide (60000 < c.holdLimit) || (decide (52 ≤ i) && refresh != c.refreshLimit)))))

/-- A 1 ms expiry in RUN and AFTERRUN ages every record below 65535 by 1 and advances the hold timers of HELD records
and the running refresh timers, taking the expiries that result: at its hold limit a record leaves HELD for SUBSTITUTE
or FAILED, at its refresh limit a slot's timer stops and a loss with LOST is declared, which a forced slot ignores. In
SLEEP nothing moves (R4, R6, R11, R13). HOLD_EXPIRY and REFRESH_EXPIRY are the 1 ms expiry that reaches the limit,
taken for one record (the model's reading of these rows, log 8): when the timer does not stand at its last
millisecond, and in SLEEP, they do not occur (R4, R11). -/
def Obligations.SignalTimersRun : Prop :=
  (∀ (s : State),
     (s.active = false → exec .signalAgeTick s = .next s) ∧
     (s.active = true → ∃ t, exec .signalAgeTick s = .next t ∧
       s.keepsAllBut [.signals, .link, .handed, .distance] t ∧
       ∀ i, i < 64 →
         let r := s.sig i
         let u := t.sig i
         let heldTo := r.hold.elapsed + 1
         u.cfg = r.cfg ∧ u.forced = r.forced ∧ u.age = (if r.age < 65535 then r.age + 1 else r.age) ∧
         (r.quality ≠ .held → r.refresh.running = false →
           u = { r with age := if r.age < 65535 then r.age + 1 else r.age }) ∧
         (r.quality = .held → r.hold.running = true → r.refresh.running = false → heldTo < r.cfg.holdLimit →
           u.quality = .held ∧ u.value = r.value ∧ u.hold = ⟨true, heldTo⟩ ∧ u.flags = r.flags) ∧
         (r.quality = .held → r.hold.running = true → r.refresh.running = false → r.cfg.holdLimit ≤ heldTo →
           u.hold = ⟨false, 0⟩ ∧ u.flags = r.flags ∧ match r.cfg.substitute with
             | some v => u.quality = .substitute ∧ u.value = v
             | none => u.quality = .failed ∧ u.value = r.value) ∧
         (r.refresh.running = true → r.refresh.elapsed + 1 < r.cfg.refreshLimit →
           u.refresh = ⟨true, r.refresh.elapsed + 1⟩ ∧ u.flags = r.flags) ∧
         (r.refresh.running = true → r.cfg.refreshLimit ≤ r.refresh.elapsed + 1 → u.refresh = ⟨false, 0⟩ ∧
           (r.forced = false → u.flags = { r.flags with lost := true }) ∧
           (r.forced = true → u.flags = r.flags) ∧
           (r.forced = false → r.quality = .valid → 0 < r.cfg.holdLimit →
             u.quality = .held ∧ u.value = r.value ∧ u.hold = ⟨true, 0⟩)))) ∧
  (∀ (s : State) (i : Fin 64) (h : Fin 12),
     (let r := s.sig i
      let due : Prop := s.active = true ∧ r.quality = .held ∧ r.hold.running = true ∧ r.cfg.holdLimit ≤ r.hold.elapsed + 1
      (¬due → exec (.holdExpiry i) s = .next s) ∧
      (due → exec (.holdExpiry i) s = .next (putRec i (match r.cfg.substitute with
        | some v => { r with value := v, quality := .substitute, hold := ⟨false, 0⟩ }
        | none => { r with quality := .failed, hold := ⟨false, 0⟩ }) false s))) ∧
     (let r := s.sig (52 + h)
      let due : Prop := s.active = true ∧ r.refresh.running = true ∧ r.cfg.refreshLimit ≤ r.refresh.elapsed + 1
      (¬due → exec (.refreshExpiry h) s = .next s) ∧
      (due → ∃ u, exec (.refreshExpiry h) s = .next (putRec (52 + h) u true s) ∧ u.refresh = ⟨false, 0⟩ ∧
        (r.forced = true → u = { r with refresh := ⟨false, 0⟩ }) ∧
        (r.forced = false → u.flags = { r.flags with lost := true } ∧ u.cfg = r.cfg ∧ u.age = r.age ∧
          (r.quality = .valid → 0 < r.cfg.holdLimit → u.quality = .held ∧ u.value = r.value ∧ u.hold = ⟨true, 0⟩) ∧
          (r.quality ≠ .valid → u.quality = r.quality ∧ u.value = r.value ∧ u.hold = r.hold)))))

/-- A transition away from the settled level starts a qualification at its time, or starts it again; one back drops
it; with w = 0 it qualifies at once, otherwise when the level has stood for w µs. A qualified edge changes the settled
level; one of the selected direction becomes the reference edge and, when there was one, ends a period of 1 µs to the
loss timeout, which is counted, spanned and logged, the oldest of 8 entries giving way with LOG_OVERRUN, and ends a
standing wiring fault; with n at 65535 the window is saturated instead. A channel that does not capture only follows
its pin (R21 to R24, R33). -/
def Obligations.EdgesMakePeriods : Prop :=
  ∀ (s : State) (i : Fin 4) (high : Bool) (t0 : Nat),
    let c := s.chan i
    let now := s.setClock (max s.clock t0)
    let put (u : State) (x : PulseChan) : State := u.setPulse (tset s.pulse i x)
    let qualified (u : State) (pin : Bool) (te : Nat) : State :=
      let q := { c with pin := pin, settled := !c.settled, qual := none }
      let selected : Bool := match c.cfg.edge with
        | .riseToRise => !c.settled
        | .fallToFall => c.settled
        | .everyEdge => true
      if selected = false then put u q
      else match c.reference with
        | none => put u { q with reference := some te }
        | some ref =>
          if 65535 ≤ c.n then put u { q with reference := some te, saturated := true }
          else
            let p := min (max 1 (te - ref)) (c.cfg.timeout * 1000)
            let faulty : Bool := c.wiring.judgement == .faultOpen || c.wiring.judgement == .faultShort
            let v := put u { q with
              reference := some te, n := c.n + 1, t := c.t + p,
              log := (if c.log.length < 8 then c.log else c.log.drop 1) ++ [p],
              logOverrun := c.logOverrun || decide (8 ≤ c.log.length),
              wiring := if faulty then ⟨.clean, none, none⟩ else c.wiring }
            if faulty then v.setHanded (s.handed ++ [.faultInactive
              (faultCode .pulse i (if c.wiring.judgement = .faultShort then .shorted else .opened))]) else v
    (high = c.pin → exec (.pulseTransition i high t0) s = .next now) ∧
    (high ≠ c.pin → c.capturing = false →
      exec (.pulseTransition i high t0) s = .next (put now { c with pin := high })) ∧
    (high ≠ c.pin → c.capturing = true →
      (high = c.settled → exec (.pulseTransition i high t0) s = .next (put now { c with pin := high, qual := none })) ∧
      (high ≠ c.settled → 0 < c.cfg.width →
        exec (.pulseTransition i high t0) s = .next (put now { c with pin := high, qual := some t0 })) ∧
      (high ≠ c.settled → c.cfg.width = 0 → exec (.pulseTransition i high t0) s = .next (qualified now high t0))) ∧
    (c.qual = none ∨ c.capturing = false → exec (.qualificationExpiry i) s = .next s) ∧
    (∀ te, c.qual = some te → c.capturing = true → exec (.qualificationExpiry i) s =
      .next (qualified (s.setClock (max s.clock (te + c.cfg.width))) c.pin te))

/-- At a window's end the frequency in mHz is n periods over t µs, rounded, or with none the last one bounded by what
the gap allows, or 0 past the loss timeout; the value f × M / D, rounded, is written, with OVER for a saturated
window, unless a wiring fault or an abort hold with n = 0 withholds it; the accumulators clear and the next window has
the current W. P0 hands n to the distance counters and what it wrote to the service mode; P1 writes signal 50 from
record 13 and its running threshold (R26 to R28, R30, R34). -/
def Obligations.WindowsAreEvaluated : Prop :=
  ∀ (s : State) (i : Fin 4) (t0 : Nat),
    let c := s.chan i
    let now := s.setClock (max s.clock t0)
    let e := match c.reference with
      | none => c.cfg.timeout * 1000
      | some ref => max 1 (max s.clock t0 - ref)
    let f := if 1 ≤ c.n then (2 * (c.n * 1000000000) + c.t) / (2 * c.t)
      else if e < c.cfg.timeout * 1000 then min c.fPrev (1000000000 / e) else 0
    let value : Int := ((2 * (f * c.cfg.scaleM) + c.cfg.scaleD) / (2 * c.cfg.scaleD) : Nat)
    let withheld : Prop := c.wiring.judgement = .faultOpen ∨ c.wiring.judgement = .faultShort ∨
      (c.abortHold = true ∧ c.n = 0)
    let s1 := now.setPulse (tset s.pulse i { c with
      fPrev := f, n := 0, t := 0, saturated := false, abortHold := c.abortHold && c.n == 0,
      windowTimer := some c.cfg.window })
    let s2 := writeFreshWith (12 + i) value { overLimit := c.saturated } s1
    let running (u : State) : Int := if (u.sig 13).quality = .valid ∧ ((u.chan 1).cfg.threshold : Int) ≤ (u.sig 13).value
      then 1 else 0
    (c.capturing = false → exec (.windowExpiry i t0) s = .next now) ∧
    (c.capturing = true →
      (i = 0 → (withheld → exec (.windowExpiry i t0) s = .next (s1.setHanded (s.handed ++ [.distance c.n]))) ∧
        (¬withheld → exec (.windowExpiry i t0) s = .next (s2.setHanded
          (s2.handed ++ [.distance c.n, .speedCheck (s2.sig 12).value (s2.sig 12).quality])))) ∧
      (i = 1 → (withheld → exec (.windowExpiry i t0) s = .next (writeFresh 50 (running s1) s1)) ∧
        (¬withheld → exec (.windowExpiry i t0) s = .next (writeFresh 50 (running s2) s2))) ∧
      (i = 2 ∨ i = 3 → (withheld → exec (.windowExpiry i t0) s = .next s1) ∧
        (¬withheld → exec (.windowExpiry i t0) s = .next s2)))

/-- The wiring judgement of senders, coded switches and pulse inputs: a sample outside the band raises a suspicion at
its time, one on the other side moves it, a clean one ends it, and a suspicion of one side that has stood for the
confirm time is a fault; at a fault a clean sample starts the recovery time, one outside stops it, and the fault ends
when it has run. A pulse input is checked every 10 ms, with 500 ms and 1000 ms, and only when its gap has reached the
loss timeout; a fault declares a loss with LOST and is reported, and its end is reported (R31 to R33, R43, R44, R49). -/
def Obligations.WiringIsJudged : Prop :=
  (∀ (w : Wiring) (band : Band) (now confirm recovery : Nat),
    w.biasNext band now = w.lineNext band now 500 1000 ∧
    (∀ j, w.judgement = j → match j, band with
      | .clean, .within => w.lineNext band now confirm recovery = w
      | .clean, .above => w.lineNext band now confirm recovery = ⟨.suspectOpen, some now, none⟩
      | .clean, .below => w.lineNext band now confirm recovery = ⟨.suspectShort, some now, none⟩
      | .suspectOpen, .within => w.lineNext band now confirm recovery = ⟨.clean, none, none⟩
      | .suspectShort, .within => w.lineNext band now confirm recovery = ⟨.clean, none, none⟩
      | .suspectOpen, .below => w.lineNext band now confirm recovery = ⟨.suspectShort, some now, none⟩
      | .suspectShort, .above => w.lineNext band now confirm recovery = ⟨.suspectOpen, some now, none⟩
      | .suspectOpen, .above => ∀ t0, w.suspicion = some t0 →
        (now - t0 < confirm * 1000 → w.lineNext band now confirm recovery = w) ∧
        (confirm * 1000 ≤ now - t0 → w.lineNext band now confirm recovery = ⟨.faultOpen, none, none⟩)
      | .suspectShort, .below => ∀ t0, w.suspicion = some t0 →
        (now - t0 < confirm * 1000 → w.lineNext band now confirm recovery = w) ∧
        (confirm * 1000 ≤ now - t0 → w.lineNext band now confirm recovery = ⟨.faultShort, none, none⟩)
      | _, .within =>
        (w.recovery = none → 0 < recovery →
          w.lineNext band now confirm recovery = { w with recovery := some now }) ∧
        ∀ t0, w.recovery = some t0 →
          (now - t0 < recovery * 1000 → w.lineNext band now confirm recovery = w) ∧
          (recovery * 1000 ≤ now - t0 → w.lineNext band now confirm recovery = ⟨.clean, none, none⟩)
      | _, _ => w.lineNext band now confirm recovery = { w with recovery := none })) ∧
  ∀ (s : State) (i : Fin 4) (band : Band) (t0 : Nat),
    let c := s.chan i
    let now := s.setClock (max s.clock t0)
    let w := c.wiring.lineNext band (max s.clock t0) 500 1000
    let fault (x : Wiring) : Prop := x.judgement = .faultOpen ∨ x.judgement = .faultShort
    let code (x : Wiring) := faultCode .pulse i (if x.judgement = .faultShort then .shorted else .opened)
    let s1 := now.setPulse (tset s.pulse i { c with wiring := w })
    (c.capturing = false ∨ c.biasOn = false → exec (.biasCheckExpiry i band t0) s = .next now) ∧
    (c.capturing = true → c.biasOn = true → c.gap (max s.clock t0) < c.cfg.timeout * 1000 →
      exec (.biasCheckExpiry i band t0) s = .next (now.setPulse (tset s.pulse i { c with wiring :=
        if c.wiring.judgement = .suspectOpen ∨ c.wiring.judgement = .suspectShort then ⟨.clean, none, none⟩
        else c.wiring }))) ∧
    (c.capturing = true → c.biasOn = true → c.cfg.timeout * 1000 ≤ c.gap (max s.clock t0) →
      (fault w → ¬fault c.wiring → exec (.biasCheckExpiry i band t0) s =
        .next (hand (.faultActive (code w)) (declareLoss (12 + i) true s1))) ∧
      (¬fault w → fault c.wiring → exec (.biasCheckExpiry i band t0) s =
        .next (s1.setHanded (s.handed ++ [.faultInactive (code c.wiring)]))) ∧
      ((fault w ↔ fault c.wiring) → exec (.biasCheckExpiry i band t0) s = .next s1))

/-- PULSE_CONFIG: a channel above 3, a D of 0, or an M of 0 on P1 to P3 is RANGE; the items are clamped with ADJUSTED,
on P0 with M fixed at 360 and D at least 1000. In SLEEP only the configuration changes, and on P0 a new D clears the
distance remainder (R18, R67). In RUN and AFTERRUN a new W, timeout or threshold leaves the window alone (R19); an
enable taken away stops and clears the channel, ends its fault and fails its signal, with signal 50 at 0 for P1; an
enable given starts it afresh (R20); a change of edge mode, w, M or D aborts the window with a loss without LOST
(R29). That an M or a D above 65535 is taken as it stands (log 42), and that in SLEEP the channel's log stays also
when it is turned off (log 47), is the model's choice. -/
def Obligations.PulseConfigTakesEffect : Prop :=
  ∀ (s : State) (x : Slot) (i : Nat) (c : PulseCfg), s.asks 0x20#8 x →
    (3 < i ∨ c.scaleD = 0 ∨ (0 < i ∧ c.scaleM = 0) → exec (.pulseConfig .good i c) s = .next (s.replied x .range)) ∧
    (i ≤ 3 → c.scaleD ≠ 0 → i = 0 ∨ c.scaleM ≠ 0 →
      let c0 : PulseCfg := { c with scaleM := if i = 0 then 360 else c.scaleM }
      let c1 : PulseCfg := { c0 with
        width := min 1000 c.width, window := max 10 (min 100 c.window), timeout := max 50 (min 5000 c.timeout),
        scaleD := if i = 0 then max 1000 c.scaleD else c.scaleD, threshold := min 2000 c.threshold }
      let old := s.chan i
      let faulty : Bool := old.wiring.judgement == .faultOpen || old.wiring.judgement == .faultShort
      let s0 := if i = 0 ∧ old.cfg.scaleD ≠ c1.scaleD then s.setDistance { s.distance with r := 0 } else s
      let put (y : PulseChan) : State := s0.setPulse (tset s.pulse i y)
      let answered (t : State) : Prop :=
        exec (.pulseConfig .good i c) s = .next (t.replied x (okOr (c1 != c0)) (.pulse c1))
      (s.active = false → answered (put { old with cfg := c1 })) ∧
      (s.active = true → old.cfg.enable = c1.enable →
        c1.enable = false ∨ (old.cfg.edge = c1.edge ∧ old.cfg.width = c1.width ∧ old.cfg.scaleM = c1.scaleM ∧
          old.cfg.scaleD = c1.scaleD) → answered (put { old with cfg := c1 })) ∧
      (s.active = true → old.cfg.enable = true → c1.enable = true →
        ¬(old.cfg.edge = c1.edge ∧ old.cfg.width = c1.width ∧ old.cfg.scaleM = c1.scaleM ∧
          old.cfg.scaleD = c1.scaleD) →
        answered (declareLoss (12 + i) false (put { old with
          cfg := c1, n := 0, t := 0, saturated := false, log := [], fPrev := 0, reference := none, qual := none,
          windowTimer := some c1.window, abortHold := true }))) ∧
      (s.active = true → old.cfg.enable = false → c1.enable = true →
        answered (put { PulseChan.powerOn c1 old.pin with windowTimer := some c1.window, biasOn := true })) ∧
      (s.active = true → old.cfg.enable = true → c1.enable = false →
        let stopped := put { PulseChan.powerOn c1 old.pin with settled := old.settled, logOverrun := old.logOverrun }
        let told := if faulty then stopped.setHanded (s.handed ++ [.faultInactive
          (faultCode .pulse i (if old.wiring.judgement = .faultShort then .shorted else .opened))]) else stopped
        let failed := declareFailure (12 + i) none told
        answered (if i = 1 then writeFresh 50 0 failed else failed)))

/-- PULSE_LOG_READ returns and clears the log with LOG_OVERRUN (R25). REPEATER_CONFIG clamps k_out to 1000 … 25000
with ADJUSTED and recomputes the target. The target is round(speed × k_out / 360) mHz while record 12 is VALID above
0, else low; each half-cycle lasts round(5 × 10⁸ / f) µs for the target in force when it begins; a low target lets the
high half end and rests; a target found while REP rests starts with a high half at once (R35, R36). When a change of
record 12 is taken as an event of its own is the model's choice (log 1). -/
def Obligations.LogReadAndRepeater : Prop :=
  ∀ (s : State) (x : Slot),
    let freq (u : State) : Option Nat :=
      let f := (2 * ((u.sig 12).value.toNat * u.repeater.kOut) + 360) / 720
      if (u.sig 12).quality = .valid ∧ 0 < (u.sig 12).value ∧ f ≠ 0 then some f else none
    let half (f : Nat) := (1000000000 + f) / (2 * f)
    let retargeted (u : State) : State := u.setRepeater (match freq u, u.repeater.half with
      | some f, none => { u.repeater with target := some f, high := true, half := some (half f) }
      | g, _ => { u.repeater with target := g })
    (s.asks 0x21#8 x → ∀ i,
      (3 < i → exec (.pulseLogRead .good i) s = .next (s.replied x .range)) ∧
      (i ≤ 3 → exec (.pulseLogRead .good i) s = .next
        ((s.setPulse (tset s.pulse i { s.chan i with log := [], logOverrun := false })).replied x .ok
          (.pulseLog i (s.chan i).logOverrun (s.chan i).log.length (s.chan i).log)))) ∧
    (s.asks 0x22#8 x → ∀ k,
      let k1 := max 1000 (min 25000 k)
      exec (.repeaterConfig .good k) s = .next
        ((retargeted (s.setRepeater { s.repeater with kOut := k1 })).replied x (okOr (k1 != k)))) ∧
    (s.active = true ∨ (s.powered = true ∧ Handoff.repeater ∈ s.handed) →
      exec .repeaterTarget s = .next (retargeted (s.setHanded (s.handed.erase .repeater)))) ∧
    (s.repeater.half = none → exec .repeaterHalfCycleEnd s = .next s) ∧
    (∀ n, s.repeater.half = some n → exec .repeaterHalfCycleEnd s = .next (s.setRepeater (match s.repeater.target with
      | some f => { s.repeater with high := !s.repeater.high, half := some (half f) }
      | none => { s.repeater with high := false, half := none })))

/-- Rounding is to the nearest integer, and of two as near to the one farther from zero (00_scope, "Rounding and
division"). A curve's value between two neighbouring points is the earlier one's plus the rounded share of the
segment, at a point that point's own, below the first and above the last the end point's, whichever way the curve runs
(R41, R79). A sender takes a sample while it samples and no under-voltage stands (R40, R45). A clean one while the
judgement is CLEAN, or that ends a suspicion, is linearised with UNDER or OVER beyond the curve's ends, filtered as F
+ round((256x − F) / 2^s), or 256x with F empty, and written as round(F / 256) (R41, R42); one that ends a fault
starts F afresh and reports the fault inactive; other clean ones write nothing. The first one outside the band
declares a loss with LOST, and the one that confirms a fault reports it (R43, R44). -/
def Obligations.SendersInterpolateAndSample : Prop :=
  ((∀ a b : Int, 0 < b →
     -b ≤ 2 * (a - roundDiv a b * b) ∧ 2 * (a - roundDiv a b * b) ≤ b ∧
     (2 * (a - roundDiv a b * b) = b → a < 0) ∧ (2 * (a - roundDiv a b * b) = -b → 0 < a)) ∧
   ∀ (curve : List (Int × Int)) (v : Int), (curve.map Prod.fst).Pairwise (· < ·) →
     (∀ u p q w, curve = u ++ p :: q :: w → p.1 ≤ v → v ≤ q.1 →
       interp curve v = p.2 + roundDiv ((v - p.1) * (q.2 - p.2)) (q.1 - p.1)) ∧
     (∀ p ∈ curve, v = p.1 → interp curve v = p.2) ∧
     (∀ p w, curve = p :: w → v < p.1 → interp curve v = p.2) ∧
     ∀ u p, curve = u ++ [p] → p.1 < v → interp curve v = p.2) ∧
  (∀ (s : State) (i : Fin 12) (raw t0 : Nat),
     let c := s.sender i
     let time := max s.clock t0
     let now := s.setClock time
     let band : Band := if c.cfg.openAt ≤ raw then .above else if raw ≤ c.cfg.shortAt then .below else .within
     let w := c.wiring.lineNext band time c.cfg.confirm c.cfg.recovery
     let fault (x : Wiring) : Prop := x.judgement = .faultOpen ∨ x.judgement = .faultShort
     let code (x : Wiring) := faultCode .sender i (if x.judgement = .faultShort then .shorted else .opened)
     let put (u : State) (f : Option Int) : State := u.setSenders (tset s.senders i { c with wiring := w, filter := f })
     let v := interp (c.cfg.curve.map fun p => ((p.1 : Int), p.2)) raw
     let ask : SigFlags := { overLimit := c.cfg.curve.getLast?.any fun p => decide (p.1 < raw),
                             underLimit := c.cfg.curve.head?.any fun p => decide (raw < p.1) }
     let f := match c.filter with
       | none => 256 * v
       | some g => g + roundDiv (256 * v - g) (2 ^ c.cfg.shift)
     (c.sampleOn = false ∨ s.supply.underLimit = true → exec (.senderSampleExpiry i raw t0) s = .next now) ∧
     (c.sampleOn = true → s.supply.underLimit = false →
       (band = .within → ¬fault c.wiring → exec (.senderSampleExpiry i raw t0) s =
         .next (writeFreshWith i (roundDiv f 256) ask (put now (some f)))) ∧
       (band = .within → fault c.wiring → w.judgement = .clean → exec (.senderSampleExpiry i raw t0) s =
         .next (writeFreshWith i (roundDiv (256 * v) 256) ask
           ((put now (some (256 * v))).setHanded (s.handed ++ [.faultInactive (code c.wiring)])))) ∧
       (band = .within → fault c.wiring → w.judgement ≠ .clean →
         exec (.senderSampleExpiry i raw t0) s = .next (put now c.filter)) ∧
       (band ≠ .within → c.wiring.judgement = .clean →
         exec (.senderSampleExpiry i raw t0) s = .next (declareLoss i true (put now c.filter))) ∧
       (band ≠ .within → c.wiring.judgement ≠ .clean → (fault w ↔ fault c.wiring) →
         exec (.senderSampleExpiry i raw t0) s = .next (put now c.filter)) ∧
       (band ≠ .within → c.wiring.judgement ≠ .clean → fault w → ¬fault c.wiring →
         exec (.senderSampleExpiry i raw t0) s =
           .next ((put now c.filter).setHanded (s.handed ++ [.faultActive (code w)])))))

/-- SENDER_CONFIG: a channel above 11, fewer than 2 or more than 10 points, a raw value above 4095, a value outside
±8,000,000, raw values that do not rise, or thresholds out of order are RANGE; s, confirm and recovery are clamped
with ADJUSTED (R39). In SLEEP only the configuration changes; a change of curve or s empties F; an enable taken away
stops the channel, ends its fault and fails its signal, one given starts it as at RUN entry (R39, R46). R39 names no
bound of the thresholds, and the model takes any in order (DESIGN CHOICE, log 12). SWITCH_CONFIG: an input above 23,
boundaries out of order, a fifth STOP_REQ, a third ASSIST_REQ, or a role on a door's input are RANGE; debounce,
confirm and recovery are clamped with ADJUSTED. ACK, PARKING_BRAKE and OVERRIDE move from the input that held them
(R47). Outside RUN and AFTERRUN no more than the configurations change, but for the force a PARKING_BRAKE role lifts,
with what that hands on. A change of kind, polarity or boundaries in RUN and AFTERRUN restarts the input, a fault that
stands being reported inactive (R51); role, debounce or times alone disturb nothing. In RUN and AFTERRUN a
PARKING_BRAKE role that moves re-decides permission, and ends the service mode unless its new holder is VALID and
active (R144, R166); an OVERRIDE role that moves re-decides the interlock with the new holder's record (R146); signals
45, 46 and 51, outputs and reports follow; with neither moved doors, outputs and faults stay. The hours gate alone may
be judged, by the lifting of a force on record 50 with the service mode, which no run puts there (R13). -/
def Obligations.InputConfigsTakeEffect : Prop :=
  (∀ (s : State) (x : Slot) (i : Nat) (c : SenderCfg), s.asks 0x28#8 x →
     let good : Prop := i ≤ 11 ∧ 2 ≤ c.curve.length ∧ c.curve.length ≤ 10 ∧
       (∀ p ∈ c.curve, p.1 ≤ 4095 ∧ -8000000 ≤ p.2 ∧ p.2 ≤ 8000000) ∧ (c.curve.map Prod.fst).Pairwise (· < ·) ∧
       c.shortAt < c.openAt
     let c1 : SenderCfg := { c with
       shift := min 10 c.shift, confirm := max 100 (min 10000 c.confirm), recovery := max 100 (min 30000 c.recovery) }
     let old := s.sender i
     let fresh : Sender := ⟨c1, none, ⟨.clean, none, none⟩, c1.enable⟩
     let put (y : Sender) : State := s.setSenders (tset s.senders i y)
     let answered (t : State) : Prop :=
       exec (.senderConfig .good i c) s = .next (t.replied x (okOr (c1 != c)) (.sender c1))
     (¬good → exec (.senderConfig .good i c) s = .next (s.replied x .range)) ∧
     (good → s.active = false → answered (put { old with cfg := c1 })) ∧
     (good → s.active = true → old.cfg.enable = c1.enable →
       answered (put { old with
         cfg := c1, filter := if old.cfg.curve = c1.curve ∧ old.cfg.shift = c1.shift then old.filter else none })) ∧
     (good → s.active = true → old.cfg.enable = false → c1.enable = true → answered (put fresh)) ∧
     (good → s.active = true → old.cfg.enable = true → c1.enable = false →
       (old.wiring.judgement ≠ .faultOpen → old.wiring.judgement ≠ .faultShort →
         answered (declareFailure i none (put fresh))) ∧
       (old.wiring.judgement = .faultOpen → answered (declareFailure i none
         ((put fresh).setHanded (s.handed ++ [.faultInactive (faultCode .sender i .opened)])))) ∧
       (old.wiring.judgement = .faultShort → answered (declareFailure i none
         ((put fresh).setHanded (s.handed ++ [.faultInactive (faultCode .sender i .shorted)])))))) ∧
  (∀ (s : State) (x : Slot) (k : Nat) (c : SwitchCfg), s.asks 0x29#8 x →
     let holding (r : Role) : Nat := ((List.range 24).filter fun j => j != k && (s.switch j).cfg.role == r).length
     let good : Prop := k ≤ 23 ∧ c.shortLimit < c.split ∧ c.split < c.openLimit ∧ c.openLimit ≤ 4095 ∧
       (c.role = .stopReq → holding .stopReq < 4) ∧ (c.role = .assistReq → holding .assistReq < 2) ∧
       (c.role ≠ .none → ∀ d, d < 4 → doorAssigns (s.door d).cfg k = false)
     let c1 : SwitchCfg := { c with debounce := max 2 (min 500 c.debounce),
                                    confirm := max 100 (min 10000 c.confirm), recovery := max 100 (min 30000 c.recovery) }
     let old := s.switch k
     let moved (j : Nat) : SwitchCfg :=
       if j = k then c1
       else if (c.role = .ack ∨ c.role = .parkingBrake ∨ c.role = .override) ∧ (s.switch j).cfg.role = c.role
         then { (s.switch j).cfg with role := .none } else (s.switch j).cfg
     let holder (u : State) (r : Role) : Option Nat := (List.range 24).find? fun j => (u.switch j).cfg.role == r
     let pressed (u : State) (r : Role) : Bool :=
       (holder u r).any fun j => (u.sig (16 + j)).quality == .valid && (u.sig (16 + j)).value == 1
     let restarts : Prop := ¬(old.cfg.kind = c.kind ∧ old.cfg.polarity = c.polarity ∧
       old.cfg.shortLimit = c.shortLimit ∧ old.cfg.split = c.split ∧ old.cfg.openLimit = c.openLimit)
     let r := s.sig (16 + k)
     let lifts : Prop := c.role = .parkingBrake ∧ r.forced = true
     let lifted (r : SigRec) : SigRec := if r.forced then { r with forced := false, quality := .failed } else r
     let liftHands : List Handoff := if lifts ∧ r.quality ≠ .failed then [.release, .brakeChange false] else []
     (¬good → exec (.switchConfig .good k c) s = .next (s.replied x .range)) ∧
     (good → ∃ t : State, exec (.switchConfig .good k c) s = .next (t.replied x (okOr (c1 != c)) (.switch c1)) ∧
       (∀ j, j < 24 → j ≠ k → t.switch j = { s.switch j with cfg := moved j }) ∧
       (s.active = false ∨ ¬restarts → t.switch k = { old with cfg := c1 }) ∧
       (s.active = true → restarts → t.switch k = ⟨c1, none, none, ⟨.clean, none, none⟩, true, false⟩ ∧
         (c.role = .none → (s.sig (16 + k)).forced = false → (s.sig (16 + k)).quality = .valid →
           0 < (s.sig (16 + k)).cfg.holdLimit →
             (t.sig (16 + k)).quality = .held ∧ (t.sig (16 + k)).value = (s.sig (16 + k)).value)) ∧
       (s.active = true → restarts →
         (old.wiring.judgement = .faultOpen → .faultInactive (faultCode .switch k .opened) ∈ t.handed) ∧
         (old.wiring.judgement = .faultShort → .faultInactive (faultCode .switch k .shorted) ∈ t.handed)) ∧
       (c.role = .parkingBrake → (t.sig (16 + k)).forced = false) ∧
       s.keepsAllBut [.switches, .signals, .doors, .outputs, .faults, .link, .handed, .distance] t ∧
       (s.active = true →
         let brakeMoves : Prop := holder t .parkingBrake ≠ holder s .parkingBrake
         let overrideMoves : Prop := holder t .override ≠ holder s .override
         let ends : Prop := brakeMoves ∧ s.faults.service = true ∧ pressed t .parkingBrake = false
         let d := s.doors
         let speed := s.sig 12
         let wanted : Bool :=
           if speed.quality = .valid then
             (if speed.value ≤ d.policy.speed then true
              else if d.policy.speed + d.policy.hysteresis < speed.value then false else d.permission)
           else pressed t .parkingBrake
         let held := if lifts then lifted r else r
         let now := if restarts then held.loss false else held
         (¬brakeMoves → ¬overrideMoves → s.keepsAllBut [.switches, .signals, .handed] t) ∧
         (¬brakeMoves → ¬overrideMoves → ¬restarts → t.handed = s.handed ++ liftHands) ∧
         t.sig (16 + k) = (if ends then lifted now else now) ∧
         t.doors = { d with
           permission := if brakeMoves then wanted else d.permission,
           basis := if brakeMoves then (if speed.quality = .valid then .speed else .brake) else d.basis,
           overrideRead := if overrideMoves then pressed t .override else d.overrideRead,
           interlock := if overrideMoves then s.power.mode == .run && !pressed t .override && d.run != .complete
             else d.interlock } ∧
         t.faults = { s.faults with service := if ends then false else s.faults.service } ∧
         (ends → (∀ i, i < 64 → (t.sig i).forced = false) ∧ .outputService false ∈ t.handed ∧
           .gaugeService false ∈ t.handed ∧ s.offers ⟨.serviceChange, 0, .service false⟩ t ∧
           ((s.sig 51).forced = false → (s.sig 51).cfg.rangeMin = 0 → (s.sig 51).cfg.rangeMax = 1 →
             (t.sig 51).quality = .valid ∧ (t.sig 51).value = 0)) ∧
         (¬ends → ∀ i, i < 64 → i ≠ 16 + k → i ≠ 45 → i ≠ 46 → t.sig i = s.sig i) ∧
         (t.doors.permission = d.permission → t.doors.interlock = d.interlock → t.outputs = s.outputs) ∧
         (t.doors.permission ≠ d.permission ∨ t.doors.interlock ≠ d.interlock →
           s.offers ⟨.doorChange, 4, .doorShared t.doors.permission t.doors.interlock d.interlockFault⟩ t ∧
           ∀ o, o < 16 → (t.out o).request = t.ownerRequest (t.out o).owner) ∧
         (t.doors.permission ≠ d.permission → (s.sig 45).forced = false → (t.sig 45).quality = .valid ∧
           ((s.sig 45).cfg.rangeMin = 0 → (s.sig 45).cfg.rangeMax = 1 → (t.sig 45).value = if wanted then 1 else 0)) ∧
         (t.doors.interlock ≠ d.interlock → (s.sig 46).forced = false →
           (t.sig 46).quality = if d.interlockFault then .failed else .valid)) ∧
       t.distance = { s.distance with gate := t.distance.gate } ∧ ((s.sig 50).forced = false → t.distance = s.distance) ∧
       (s.active = false → s.keepsAllBut [.switches, .signals, .handed] t ∧ t.handed = s.handed ++ liftHands ∧
         t.sig (16 + k) = (if lifts then lifted r else r) ∧ ∀ i, i < 64 → i ≠ 16 + k → t.sig i = s.sig i)))

/-- A sample equal to the debounced state drops any candidate; another starts one, or keeps the one of its state; a
candidate seen for the debounce time becomes the debounced state and is written as 1 or 0, and the 100 ms refresh
starts, which writes the state again (R48). A PLAIN sample is the level by its polarity; a CODED one counts in the two
middle bands: outside them, from CLEAN, candidate and state are dropped, the refresh stops and a loss with LOST is
declared, and one that ends a suspicion or a fault starts the debounce afresh (R49). A confirmed fault is handed to
each door the input is assigned to (R139), also to one not fitted by the model's choice (log 56). -/
def Obligations.SwitchesAreDebounced : Prop :=
  ∀ (s : State) (k : Fin 24) (high : Bool) (raw t0 : Nat),
    let c := s.switch k
    let time := max s.clock t0
    let now := s.setClock time
    let put (y : SwitchIn) : State := now.setSwitches (tset s.switches k y)
    let w := c.wiring.lineNext (if raw ≤ c.cfg.shortLimit then .below else if c.cfg.openLimit ≤ raw then .above else .within)
      time c.cfg.confirm c.cfg.recovery
    let fault (y : Wiring) : Prop := y.judgement = .faultOpen ∨ y.judgement = .faultShort
    let code (y : Wiring) := faultCode .switch k (if y.judgement = .faultShort then .shorted else .opened)
    let normal : Bool := c.cfg.polarity == .normal
    let taken (a : Bool) (t : State) : Prop :=
      (c.debounced = some a → t = put { c with candidate := none }) ∧
      (c.debounced ≠ some a → ∀ start,
        (c.candidate = some (a, start) ∨ ((∀ n, c.candidate ≠ some (a, n)) ∧ start = time)) →
        (time - start < c.cfg.debounce * 1000 → t = put { c with candidate := some (a, start) }) ∧
        (c.cfg.debounce * 1000 ≤ time - start → t = writeFresh (16 + k) (if a then 1 else 0)
          (put { c with debounced := some a, candidate := none, refreshOn := true })))
    (c.sampleOn = false → exec (.switchSampleExpiry k high raw t0) s = .next now) ∧
    (c.sampleOn = true → c.cfg.kind = .plain →
      ∃ t, exec (.switchSampleExpiry k high raw t0) s = .next t ∧ taken (high == normal) t) ∧
    (c.sampleOn = true → c.cfg.kind = .coded →
      (c.cfg.shortLimit < raw → raw < c.cfg.openLimit →
        let a : Bool := decide (raw < c.cfg.split) == normal
        (c.wiring.judgement = .clean →
          ∃ t, exec (.switchSampleExpiry k high raw t0) s = .next t ∧ taken a t) ∧
        (c.wiring.judgement ≠ .clean → ¬fault c.wiring → exec (.switchSampleExpiry k high raw t0) s =
          .next (put { c with wiring := ⟨.clean, none, none⟩, debounced := none, candidate := some (a, time) })) ∧
        (fault c.wiring → w.judgement ≠ .clean →
          exec (.switchSampleExpiry k high raw t0) s = .next (put { c with wiring := w })) ∧
        (fault c.wiring → w.judgement = .clean → exec (.switchSampleExpiry k high raw t0) s =
          .next ((put { c with wiring := w, debounced := none, candidate := some (a, time) }).setHanded
            (s.handed ++ [.faultInactive (code c.wiring)])))) ∧
      (raw ≤ c.cfg.shortLimit ∨ c.cfg.openLimit ≤ raw →
        (c.wiring.judgement = .clean → exec (.switchSampleExpiry k high raw t0) s = .next (declareLoss (16 + k) true
          (put { c with wiring := w, candidate := none, debounced := none, refreshOn := false }))) ∧
        (c.wiring.judgement ≠ .clean → (fault w ↔ fault c.wiring) →
          exec (.switchSampleExpiry k high raw t0) s = .next (put { c with wiring := w })) ∧
        (c.wiring.judgement ≠ .clean → fault w → ¬fault c.wiring → exec (.switchSampleExpiry k high raw t0) s =
          .next ((put { c with wiring := w }).setHanded (s.handed ++ [.faultActive (code w)] ++
            (([0, 1, 2, 3] : List (Fin 4)).filter fun (d : Fin 4) => doorAssigns (s.door d.val).cfg k).map
              Handoff.doorWiring))))) ∧
    (c.sampleOn = true → c.refreshOn = true → ∀ a, c.debounced = some a →
      exec (.switchRefreshExpiry k) s = .next (writeFresh (16 + k) (if a then 1 else 0) s)) ∧
    (c.sampleOn = false ∨ c.refreshOn = false ∨ c.debounced = none → exec (.switchRefreshExpiry k) s = .next s)

/-- Each measurement is a fresh write to signal 48, clamped with OVER beyond its range (R2, R52). Under-voltage is
declared at one below 16,000 mV when 100 ms of such have passed, and ends at one above 17,000 mV likewise; the
declaration starts the 10,000 ms report timer, clears the senders' suspicions with a loss without LOST, and freezes
the gauges; its end is reported when the declaration was (R45, R53, R88). Over-voltage is declared above 32,000 mV and
ends below 31,000 mV; it cuts every output off, its state standing as it stood, and at its end every output drives by
its state and takes the command kept meanwhile (R54, R59, R60), the last in the same event by the model's reading (log
39, DEDUCED). In SLEEP nothing is measured. -/
def Obligations.SupplyIsWatched : Prop :=
  ∀ (s : State) (mV t0 : Nat),
    let time := max s.clock t0
    let run (on : Bool) (r : Option Nat) : Option Nat := if on then some (r.getD time) else none
    (s.supply.measureOn = false →
      exec (.supplyMeasure mV t0) s = .next (settleAfterrun (s.setClock time))) ∧
    (s.supply.measureOn = true → ∃ u : State, exec (.supplyMeasure mV t0) s = .next (settleAfterrun u) ∧
      u.clock = time ∧ u.pending = s.pending ∧ u.store = s.store ∧ u.image = s.image ∧
      u.supply.overLimit = (if s.supply.overLimit then !decide (mV < 31000) else decide (32000 < mV)) ∧
      (let r := s.sig 48
       (r.forced = true → u.sig 48 = r) ∧
       (r.forced = false → r.cfg.rangeMin ≤ r.cfg.rangeMax → u.sig 48 = { r with
         value := if (mV : Int) < r.cfg.rangeMin then r.cfg.rangeMin
           else if r.cfg.rangeMax < mV then r.cfg.rangeMax else mV,
         quality := .valid, age := 0, hold := ⟨false, 0⟩,
         flags := { r.flags with
           overLimit := r.flags.overLimit || decide (r.cfg.rangeMax < mV),
           underLimit := r.flags.underLimit || decide ((mV : Int) < r.cfg.rangeMin) } }) ∧
       ∀ i, 12 ≤ i → i < 64 → i ≠ 48 → u.sig i = s.sig i) ∧
      (∀ o, o < 16 → (s.supply.overLimit = false ∨ 31000 ≤ mV → (u.out o).state = (s.out o).state) ∧
        (s.supply.overLimit = false → 32000 < mV → (u.out o).cut = true ∧ (u.out o).drive = .off ∧
          (u.out o).openRun = none ∧ (u.out o).loadRun = none ∧ (u.out o).energizedRun = none ∧
          (u.out o).followRun = none ∧ (u.out o).provingOn = false) ∧
        (s.supply.overLimit = true → mV < 31000 →
          u.out o = Output.follow { s.out o with
            cut := false, provingOn := decide ((s.out o).state = .on) && (s.out o).shortProven } ∧
          ((u.out o).state ≠ (s.out o).state → (s.out o).owner = .interlock → Handoff.interlockOutput ∈ u.handed)) ∧
        (u.supply.overLimit = s.supply.overLimit → u.out o = s.out o)) ∧
      (s.supply.underLimit = false →
        let low := run (decide (mV < 16000)) s.supply.lowRun
        ((∀ r, low = some r → time - r < 100000) → u.supply.underLimit = false ∧ u.supply.lowRun = low ∧
          u.senders = s.senders ∧ u.gauges = s.gauges) ∧
        ∀ r, low = some r → 100000 ≤ time - r →
          u.supply.underLimit = true ∧ u.supply.lowRun = none ∧ u.supply.highRun = none ∧ u.supply.reportOn = true ∧
          u.supply.reported = false ∧
          (∀ i, i < 12 → (s.sender i).sampleOn = true →
            (u.sender i).filter = (s.sender i).filter ∧
            ((s.sender i).wiring.judgement ≠ .faultOpen → (s.sender i).wiring.judgement ≠ .faultShort →
              (u.sender i).wiring = ⟨.clean, none, none⟩ ∧ (u.sig i).flags = (s.sig i).flags ∧
              ((s.sig i).quality = .valid → (s.sig i).forced = false → 0 < (s.sig i).cfg.holdLimit →
                (u.sig i).quality = .held ∧ (u.sig i).value = (s.sig i).value))) ∧
          ∀ g, g < 6 → (s.gauge g).state ≠ .unhomed → (s.gauge g).state ≠ .fault →
            u.gauge g = { s.gauge g with
              s := 0, freeze := some ⟨decide ((s.gauge g).state = .homing ∨ 0 < (s.gauge g).s), true⟩ }) ∧
      (s.supply.underLimit = true →
        let high := run (decide (17000 < mV)) s.supply.highRun
        ((∀ r, high = some r → time - r < 100000) → u.supply.underLimit = true ∧ u.supply.highRun = high ∧
          u.gauges = s.gauges) ∧
        ∀ r, high = some r → 100000 ≤ time - r →
          u.supply.underLimit = false ∧ u.supply.reportOn = false ∧ u.supply.reported = false ∧
          (let reports : List Handoff := if s.supply.reported then [.faultInactive (faultCode .supply 0 .underVoltage)] else []
           (s.supply.overLimit = false ∨ 31000 ≤ mV → u.handed = s.handed ++ reports) ∧
           u.handed.filter (fun h => h != .interlockOutput) =
             s.handed.filter (fun h => h != .interlockOutput) ++ reports) ∧
          ∀ g, g < 6 → u.gauge g = if (s.gauge g).state = .unhomed then (s.gauge g).home
            else { s.gauge g with freeze := none })) ∧
    (s.supply.underLimit = true → s.supply.reportOn = true → exec .underVoltageReportExpiry s = .next
      ((s.setSupply { s.supply with reportOn := false, reported := true }).setHanded
        (s.handed ++ [.faultActive (faultCode .supply 0 .underVoltage)]))) ∧
    (s.supply.underLimit = false ∨ s.supply.reportOn = false → exec .underVoltageReportExpiry s = .next s)

/-- An output put into the bank changes that output alone; a change of its state offers OUTPUT_STATE and, on an
INTERLOCK output, goes to the door supervisor (R61). The command is the force or the request; a new one moves OFF and
ON to each other, ON starting the proving time while short proven stands, and is only kept in the other states (R55,
R56) and, under the over-voltage cut, in every state (R59, R60). OUTPUT_CONFIG lifts a force, takes the owner's
present request and leaves short count and lockout; OUTPUT_READ shows sixteen entries. OUTPUT_FORCE checks the number,
then the service mode, then OFF on an INTERLOCK output, then ON on a locked-out one; RELEASE is answered OK in every
mode. The force replaces an earlier one and the output acts on the change of command; the end of the service mode, as
the drivers take it, lifts every force (R60, R167). -/
def Obligations.OutputsTakeOwnersAndForces : Prop :=
  (∀ (s : State) (x : Slot) (o : Nat),
     (∀ new : Output, o < 16 →
       let t := putOutput o new s
       s.keepsAllBut [.outputs, .link, .handed] t ∧
       (∀ j, j < 16 → t.out j = if j = o then new else s.out j) ∧ t.outputs.service = s.outputs.service ∧
       t.link = (if (s.out o).state = new.state then s.link else
         s.link.offer .outputState o (.output o new.state (new.force.getD new.request) new.shortCount)) ∧
       t.handed = s.handed ++
         if (s.out o).state ≠ new.state ∧ new.owner = .interlock then [.interlockOutput] else []) ∧
     (∀ y : Output,
       (y.cut = true → y.follow = y) ∧
       (y.cut = false → y.state = .off → y.follow = if y.force.getD y.request
         then { y with state := .on, provingOn := y.shortProven } else y) ∧
       (y.cut = false → y.state = .on →
         y.follow = if y.force.getD y.request then y else { y with state := .off, provingOn := false }) ∧
       (y.state ≠ .off → y.state ≠ .on → y.follow = y)) ∧
     (o < 16 → ∀ w, (s.ownerRequest (s.out o).owner = w → w ≠ (s.out o).request →
         handRequest o s = putOutput o { s.out o with request := w }.follow s) ∧
       (s.ownerRequest (s.out o).owner = (s.out o).request → handRequest o s = s)) ∧
     (∀ w, s.ownerRequest w = match w with
       | .none => false
       | .telltale n => match (tget s.warnings.telltales n).shown with
         | .off => false
         | .steady => true
         | .slow => decide (s.warnings.blink < 4)
         | .fast => s.warnings.blink % 2 == 0
       | .interlock => s.doors.interlock
       | .release => s.doors.permission
       | .stopSign => s.doors.stop != .none) ∧
     (s.asks 0x2A#8 x → ∀ w,
       (15 < o ∨ (∃ n, w = .telltale n ∧ 31 < n) → exec (.outputConfig .good o w) s = .next (s.replied x .range)) ∧
       (o ≤ 15 → (∀ n, w = .telltale n → n ≤ 31) → ∃ t : State,
         exec (.outputConfig .good o w) s = .next (t.replied x .ok) ∧ s.keepsAllBut [.outputs, .link, .handed] t ∧
         (∀ j, j < 16 → j ≠ o → t.out j = s.out j) ∧
         (t.out o).owner = w ∧ (t.out o).force = none ∧ (t.out o).request = s.ownerRequest w ∧
         (t.out o).shortCount = (s.out o).shortCount ∧ (t.out o).cut = (s.out o).cut ∧
         ((s.out o).cut = true ∨ ((s.out o).state ≠ .off ∧ (s.out o).state ≠ .on) →
           (t.out o).state = (s.out o).state) ∧
         ((s.out o).cut = false → (s.out o).state = .off ∨ (s.out o).state = .on →
           (t.out o).state = if s.ownerRequest w then .on else .off) ∧
         (((s.out o).owner = .interlock ∧ w ≠ .interlock) ∨ ((s.out o).owner ≠ .interlock ∧ w = .interlock) →
           Handoff.interlockOutput ∈ t.handed))) ∧
     (s.asks 0x2B#8 x → x.body = [] → exec .outputRead s = .next (s.replied x .ok (.outputs
       (s.outputs.outs.toList.map fun y => ⟨y.owner, y.request, y.force, y.force.getD y.request, y.state, y.shortCount,
         y.shortProven, y.cut⟩))))) ∧
  (∀ (s : State) (x : Slot) (o : Nat),
     (s.asks 0x2C#8 x → ∀ on,
       (15 < o → exec (.outputForce .good o on) s = .next (s.replied x .range) ∧
         exec (.outputForceRelease .good o) s = .next (s.replied x .range)) ∧
       (o ≤ 15 → s.outputs.service = false → exec (.outputForce .good o on) s = .next (s.replied x .conditions)) ∧
       (o ≤ 15 → s.outputs.service = true →
         ((s.out o).owner = .interlock →
           exec (.outputForce .good o false) s = .next (s.replied x .refusedProtected)) ∧
         ((s.out o).state = .lockedOut → exec (.outputForce .good o true) s = .next (s.replied x .conditions)) ∧
         ((s.out o).owner ≠ .interlock → exec (.outputForce .good o false) s =
           .next ((putOutput o { s.out o with force := some false }.follow s).replied x .ok)) ∧
         ((s.out o).state ≠ .lockedOut → exec (.outputForce .good o true) s =
           .next ((putOutput o { s.out o with force := some true }.follow s).replied x .ok))) ∧
       (o ≤ 15 → exec (.outputForceRelease .good o) s =
         .next ((putOutput o { s.out o with force := none }.follow s).replied x .ok))) ∧
     ∀ on, s.active = true ∨ (s.powered = true ∧ Handoff.outputService on ∈ s.handed) →
       ∃ t, exec (.outputServiceChange on) s = .next t ∧ s.keepsAllBut [.outputs, .link, .handed] t ∧
         t.outputs.service = on ∧
         ∀ j, j < 16 → t.out j = if on = true ∨ (s.out j).force = none then s.out j
           else { s.out j with force := none }.follow)

/-- Overcurrent while the driver is on counts up to 3, sets short proven, reports SHORT, and leads to SHORT_WAIT with
the retry timer, or at 3 to LOCKED_OUT, which is reported too; an open load so disproved is reported inactive, and
every run is cleared (R56, R57). The retry follows the command as it then stands; 500 ms in ON without overcurrent end
SHORT. With the driver off nothing of this occurs. A sense reading is judged by state, and not under the cut, in
SHORT_WAIT or in LOCKED_OUT. In ON and OFF an open run of 200 ms leads to OPEN_LOAD; in OFF, or OPEN_LOAD with command
off, an energized run of 200 ms to SUPPLY_SHORT; in OPEN_LOAD a load run of 200 ms back to ON or OFF; in SUPPLY_SHORT
500 ms of readings that follow the command likewise. Each confirms or ends its symptom (R57 to R59). That an energized
run ends at the first reading taken with the command on (log 29), and that OPEN_LOAD and SUPPLY_SHORT are entered
without a run (log 54), is the model's choice. -/
def Obligations.OutputLinesAreJudged : Prop :=
  (∀ (s : State) (o : Fin 16),
     let y := s.out o
     let command := y.force.getD y.request
     let driven : Prop := y.cut = false ∧ (y.state = .on ∨ (y.state = .openLoad ∧ command = true))
     let code (z : Symptom) := faultCode .output o z
     (¬driven → exec (.outputOvercurrent o) s = .next s) ∧
     (driven → ∃ t, exec (.outputOvercurrent o) s = .next t ∧ s.keepsAllBut [.outputs, .link, .handed] t ∧
       (∀ j, j < 16 → j ≠ o → t.out j = s.out j) ∧
       (t.out o = { y with
         shortCount := min 3 (y.shortCount + 1), shortProven := true,
         state := if y.shortCount + 1 < 3 then .shortWait else .lockedOut, retryOn := decide (y.shortCount + 1 < 3),
         openRun := none, loadRun := none, energizedRun := none, followRun := none, provingOn := false }) ∧
       t.handed.filter (fun h => h != .interlockOutput) = s.handed.filter (fun h => h != .interlockOutput) ++
         (if y.state = .openLoad then [.faultInactive (code .opened)] else []) ++ [.faultActive (code .shorted)] ++
         (if y.shortCount + 1 < 3 then [] else [.faultActive (code .lockedOut)])) ∧
     (y.state = .shortWait ∧ y.retryOn = true → exec (.outputRetryExpiry o) s = .next (putOutput o { y with
       retryOn := false, state := if command then .on else .off, provingOn := command && y.shortProven && !y.cut } s)) ∧
     (¬(y.state = .shortWait ∧ y.retryOn = true) → exec (.outputRetryExpiry o) s = .next s) ∧
     (y.state = .on ∧ y.provingOn = true → exec (.outputProvingExpiry o) s = .next
       (hand (.faultInactive (code .shorted)) (putOutput o { y with shortProven := false, provingOn := false } s))) ∧
     (¬(y.state = .on ∧ y.provingOn = true) → exec (.outputProvingExpiry o) s = .next s)) ∧
  (∀ (s : State) (o : Fin 16) (reading : LineReading) (t0 : Nat),
     let y := s.out o
     let time := max s.clock t0
     let now := s.setClock time
     let command := y.force.getD y.request
     let run (on : Prop) [Decidable on] (r : Option Nat) : Option Nat := if on then some (r.getD time) else none
     let full (r : Option Nat) (ms : Nat) : Prop := ∃ start, r = some start ∧ ms * 1000 ≤ time - start
     let code (z : Symptom) := faultCode .output o z
     let byCommand (z : Output) : Output :=
       { z with state := if command then .on else .off, provingOn := command && z.shortProven && !z.cut }
     let opens := run (reading = .opened) y.openRun
     let energizes := run (y.state ≠ .on ∧ command = false ∧ reading = .energized) y.energizedRun
     let loads := match reading with
       | .loaded => some (y.loadRun.getD time)
       | .opened => none
       | .energized => y.loadRun
     let follows := run (if command then reading = .energized else reading ≠ .energized) y.followRun
     let shorted (z : Output) : Output := { z with
       state := .supplyShort, openRun := none, loadRun := none, energizedRun := none, followRun := none, provingOn := false }
     (y.senseOn = false ∨ y.cut = true ∨ y.state = .shortWait ∨ y.state = .lockedOut →
       exec (.outputSenseExpiry o reading t0) s = .next now) ∧
     (y.senseOn = true → y.cut = false → y.state = .on ∨ y.state = .off →
       (full opens 200 → exec (.outputSenseExpiry o reading t0) s = .next (hand (.faultActive (code .opened))
         (putOutput o { y with energizedRun := energizes, state := .openLoad, openRun := none, loadRun := none,
                               provingOn := false } now))) ∧
       (¬full opens 200 → full energizes 200 → exec (.outputSenseExpiry o reading t0) s =
         .next (hand (.faultActive (code .supplyShort)) (putOutput o (shorted y) now))) ∧
       (¬full opens 200 → ¬full energizes 200 → exec (.outputSenseExpiry o reading t0) s =
         .next (putOutput o { y with openRun := opens, energizedRun := energizes } now))) ∧
     (y.senseOn = true → y.cut = false → y.state = .openLoad →
       (reading = .loaded → full loads 200 → exec (.outputSenseExpiry o reading t0) s =
         .next (hand (.faultInactive (code .opened)) (putOutput o
           (byCommand { y with energizedRun := none, openRun := none, loadRun := none }) now))) ∧
       (reading = .loaded → ¬full loads 200 → exec (.outputSenseExpiry o reading t0) s =
         .next (putOutput o { y with loadRun := loads, energizedRun := none } now)) ∧
       (reading ≠ .loaded → full energizes 200 → exec (.outputSenseExpiry o reading t0) s =
         .next (hand (.faultActive (code .supplyShort)) (putOutput o (shorted y)
           (hand (.faultInactive (code .opened)) now)))) ∧
       (reading ≠ .loaded → ¬full energizes 200 → exec (.outputSenseExpiry o reading t0) s =
         .next (putOutput o { y with loadRun := loads, energizedRun := energizes } now))) ∧
     (y.senseOn = true → y.cut = false → y.state = .supplyShort →
       (full follows 500 → exec (.outputSenseExpiry o reading t0) s =
         .next (hand (.faultInactive (code .supplyShort)) (putOutput o (byCommand { y with followRun := none }) now))) ∧
       (¬full follows 500 → exec (.outputSenseExpiry o reading t0) s =
         .next (putOutput o { y with followRun := follows } now))))

/-- A hand-off of n periods adds 10n to r and takes k from it for each tenth of a kilometre, so r stays below k. Total
and trips rise by that many tenths, the total stopping at 9 999 999.9 with ODO_FULL for a tenth beyond it, the trips
rolling over at 9999.9; each whole kilometre of the total takes 1 from the service distance, which stops at −9999, and
queues the counter record, which while a RESET waits each tenth does (R63 to R65, R177), and in RUN and AFTERRUN
signal 49 is then written by the service status, the only record a hand-off touches (R66). Hours and marks are not
touched. That with nothing being written the write begins once, after the last of several carries, is the model's
choice (log 48). The premise holds in every state a run reaches (k is at least 1000 on P0, R18). -/
def Obligations.HandoffsBecomeDistance : Prop :=
  ∀ (s : State) (n : Nat),
    let c := s.distance.record
    let k := (s.chan 0).cfg.scaleD
    let sum := s.distance.r + 10 * n
    let tenths := sum / k
    let before := digitsVal c.total
    let after := min 99999999 (before + tenths)
    let kms := after / 10 - before / 10
    0 < k → totalOk c.total → c.tripA.length = 5 → c.tripB.length = 5 → (∀ d ∈ c.tripA, d ≤ 9) → (∀ d ∈ c.tripB, d ≤ 9) →
    s.active = true ∨ (s.powered = true ∧ Handoff.distance n ∈ s.handed) →
    ∃ t, exec (.distanceHandoff n) s = .next t ∧
      s.keepsAllBut [.distance, .signals, .link, .handed, .power] t ∧
      t.distance.r = sum % k ∧ t.distance.r < k ∧
      totalOk t.distance.record.total ∧ digitsVal t.distance.record.total = after ∧
      t.distance.record.odoFull = (c.odoFull || decide (99999999 < before + tenths)) ∧
      t.distance.record.totalValid = c.totalValid ∧ t.distance.record.serviceValid = c.serviceValid ∧
      digitsVal t.distance.record.tripA = (digitsVal c.tripA + tenths) % 100000 ∧
      digitsVal t.distance.record.tripB = (digitsVal c.tripB + tenths) % 100000 ∧
      t.distance.record.hours = c.hours ∧ t.distance.sub = s.distance.sub ∧
      (-9999 ≤ c.service → t.distance.record.service = max (-9999) (c.service - kms)) ∧
      s.queues (if 0 < kms ∨ (0 < tenths ∧ s.link.resetPending = true) then [.counters] else []) t ∧
      (∀ i, i < 64 → i ≠ 49 → t.sig i = s.sig i) ∧ (kms = 0 ∨ s.active = false → t.sig 49 = s.sig 49) ∧
      (0 < kms → s.active = true → (s.sig 49).forced = false →
        (t.sig 49).value = (s.sig 49).clamp t.distance.record.service ∧
        (t.sig 49).quality = if c.serviceValid then .valid else .failed)

/-- TRIP_RESET sets the named trip to 0000.0 and queues the counter record, in every power mode; the other trip, the
total and r stay; a code that names no trip is refused with RANGE (R69). -/
def Obligations.TripResetClearsOneTrip : Prop :=
  ∀ (s : State) (x : Slot) (trip : Trip), s.asks 0x31#8 x →
    exec (.tripReset ⟨true, false⟩ trip) s = .next (s.replied x .range) ∧
    ∃ t : State, exec (.tripReset .good trip) s = .next (t.replied x .ok) ∧ s.keepsAllBut [.distance, .power] t ∧
      s.queues [.counters] t ∧
      t.distance = { s.distance with record := match trip with
        | .a => { s.distance.record with tripA := [0, 0, 0, 0, 0] }
        | .b => { s.distance.record with tripB := [0, 0, 0, 0, 0] } }

/-- ODOMETER_SET refuses what is above 99,999,999 with RANGE and, while the total is VALID, what is below it with
CONDITIONS; it sets the digits, ODO_FULL for the largest value alone, and r to 0, queues the record, and makes a
FAILED total VALID with COUNTERS_LOST reported inactive (R68). SERVICE_INTERVAL_SET clamps to 1 … 65535, makes the
status VALID and writes signal 49 in RUN and AFTERRUN (R70). DISTANCE_READ shows the record and changes nothing (R75).
The 100 ms refresh writes signal 49 by the status (R66). While the hours gate is open each millisecond adds 1 to the
sub-accumulator; at 360,000 it becomes 0, the hours rise by a tenth with decimal carry, and the counter record is
queued; at 99 999.9 hours counting stops with the sub-accumulator at 0. With the gate closed nothing counts (R71,
R72). HOURS_TENTH is the millisecond that completes the tenth (log 8). -/
def Obligations.WorkshopSetsAndHoursCount : Prop :=
  (∀ (s : State) (x : Slot),
     let c := s.distance.record
     (s.asks 0x32#8 x → ∀ v,
       (99999999 < v → exec (.odometerSet .good v) s = .next (s.replied x .range)) ∧
       (v ≤ 99999999 → c.totalValid = true → v < digitsVal c.total →
         exec (.odometerSet .good v) s = .next (s.replied x .conditions)) ∧
       (v ≤ 99999999 → c.totalValid = false ∨ digitsVal c.total ≤ v → ∃ t : State,
         exec (.odometerSet .good v) s = .next (t.replied x .ok (.total v true)) ∧
         s.keepsAllBut [.distance, .power, .handed] t ∧ s.queues [.counters] t ∧
         digitsVal t.distance.record.total = v ∧ totalOk t.distance.record.total ∧
         t.distance = { s.distance with r := 0, record := { c with
           total := t.distance.record.total, odoFull := decide (v = 99999999), totalValid := true } } ∧
         t.handed = s.handed ++ if c.totalValid then [] else [.faultInactive (faultCode .store 1 .countersLost)])) ∧
     (s.asks 0x33#8 x → ∀ km,
       let v := max 1 (min 65535 km)
       ∃ t : State, exec (.serviceIntervalSet .good km) s =
         .next (t.replied x (okOr (decide (v ≠ km))) (.serviceKm v)) ∧ s.queues [.counters] t ∧
         s.keepsAllBut [.distance, .signals, .link, .power] t ∧ s.keepsLinkButReports t ∧ (∀ i, i < 64 → i ≠ 49 → t.sig i = s.sig i) ∧
         t.distance = { s.distance with record := { c with service := v, serviceValid := true } } ∧
         (s.active = false → t.signals = s.signals) ∧
         (s.active = true → (s.sig 49).forced = false → (s.sig 49).cfg.rangeMin ≤ v → v ≤ (s.sig 49).cfg.rangeMax →
           (t.sig 49).value = v ∧ (t.sig 49).quality = .valid ∧ (t.sig 49).age = 0)) ∧
     (s.asks 0x30#8 x → x.body = [] → exec .distanceRead s = .next (s.replied x .ok (.distance
       ⟨digitsVal c.total, c.totalValid, c.odoFull, digitsVal c.tripA, digitsVal c.tripB, digitsVal c.hours,
         s.distance.sub, s.distance.gate, c.service, c.serviceValid, s.distance.r, (s.chan 0).cfg.scaleD,
         s.committing .counters⟩))) ∧
     (s.active = true → s.distance.refreshOn = true →
       (c.serviceValid = true → exec .serviceDistanceRefresh s = .next (writeFresh 49 c.service s)) ∧
       (c.serviceValid = false → exec .serviceDistanceRefresh s = .next (declareFailure 49 (some c.service) s))) ∧
     (s.active = false ∨ s.distance.refreshOn = false → exec .serviceDistanceRefresh s = .next s)) ∧
  (∀ (s : State),
     let h := s.distance.record.hours
     let full : Prop := ∀ d ∈ h, d = 9
     let tenth (t : State) : Prop := s.keepsAllBut [.distance, .power] t ∧ s.queues [.counters] t ∧
       t.distance = { s.distance with sub := 0, record := { s.distance.record with hours := t.distance.record.hours } } ∧
       (h.length = 6 → (∀ d ∈ h, d ≤ 9) → digitsVal t.distance.record.hours = digitsVal h + 1 ∧
         t.distance.record.hours.length = 6 ∧ ∀ d ∈ t.distance.record.hours, d ≤ 9)
     (s.distance.gate = false → exec .hoursTick s = .next s ∧ exec .hoursTenth s = .next s) ∧
     (s.distance.gate = true →
       (full → exec .hoursTick s = .next (s.setDistance { s.distance with sub := 0 }) ∧ exec .hoursTenth s = .next s) ∧
       (¬full → s.distance.sub + 1 < 360000 →
         exec .hoursTick s = .next (s.setDistance { s.distance with sub := s.distance.sub + 1 }) ∧
         exec .hoursTenth s = .next s) ∧
       (¬full → 360000 ≤ s.distance.sub + 1 →
         (∃ t, exec .hoursTick s = .next t ∧ tenth t) ∧ ∃ t, exec .hoursTenth s = .next t ∧ tenth t)))

/-- A motion event applies the motion law once toward the target of the gauge's state: decelerating away while the
target lies at or behind the pointer, else by the speed that still leaves room to stop, ending at the target at the
latest (R81). At Pmax and at rest the sweep turns, and at 0 and at rest it ends in TRACKING, while PARKING, and
TRACKING without a source, end in PARKED (R83 to R85). A coil found open leads to FAULT with the pointer's count at 0
and COIL_OPEN reported (R90). During under-voltage, in UNHOMED and FAULT, and with the motion timer stopped nothing
happens (R88). An event may complete AFTERRUN (R181). A motion event in HOMING drives 2 microsteps toward 0, or the
last one; at 0 it adds 2 to the overrun count, and at 96 homing is complete: PARKED or TRACKING by the park flag in
AFTERRUN, else PARKED without a source, SWEEP with the sweep flag, or TRACKING; a COIL_OPEN still reported is reported
inactive (R82, R83). HOMING_COMPLETE is the event that reaches 96 (log 8). A gauge put into the bank changes that
gauge alone, offers GAUGE_STATE when its state changed, and then, in AFTERRUN, tells whether some gauge is still to
park (R85, R94). The park flag counts as the AFTERRUN entry found it (log 26, DEDUCED), and decides also for a gauge
without a source (log 32); that homing leaves the direction is its choice (log 30). -/
def Obligations.PointersFollowTheMotionLaw : Prop :=
  (∀ (s : State) (g : Fin 6),
     let x := s.gauge g
     let driven : Prop := s.active = true ∧ x.motionOn = true ∧ s.supply.underLimit = false ∧ x.state ≠ .unhomed ∧
       x.state ≠ .fault
     let moved (τ : Nat) : Gauge :=
       if 0 < x.s ∧ (τ = x.p ∨ (x.up = true ∧ τ < x.p) ∨ (x.up = false ∧ x.p < τ)) then
         { x with s := x.s - 1, p := if x.up then x.p + (x.s - 1) else x.p - (x.s - 1) }
       else
         let d := (τ - x.p) + (x.p - τ)
         let v := if x.cfg.vmax < x.s then x.s - 1
           else if x.s < x.cfg.vmax ∧ (x.s + 1) * (x.s + 2) / 2 ≤ d then x.s + 1
           else if x.s * (x.s + 1) / 2 ≤ d then x.s
           else x.s - 1
         let m := min v d
         { x with s := m, up := if τ = x.p then x.up else decide (x.p < τ), p := if x.p ≤ τ then x.p + m else x.p - m }
     let put (y : Gauge) (t : Host.Outcome State Fault Refusal) : Prop := t = .next (settleAfterrun (putGauge g y s))
     (¬driven → ∀ coil, exec (.motionExpiry g coil) s = .next (settleAfterrun s)) ∧
     (driven → exec (.motionExpiry g true) s = .next (settleAfterrun (hand (.faultActive (faultCode .gauge g .coilOpen))
       (putGauge g { x with state := .fault, p := 0, s := 0, testPos := none, freeze := none, coilReported := true } s)))) ∧
     (driven →
       (x.state = .sweep →
         let y := moved (if x.sweepBack then 0 else x.cfg.pmax)
         put (if x.sweepBack = true ∧ y.p = 0 ∧ y.s = 0 then { y with state := .tracking }
           else if x.sweepBack = false ∧ y.p = x.cfg.pmax ∧ y.s = 0 then { y with sweepBack := true } else y)
           (exec (.motionExpiry g false) s)) ∧
       (x.state = .tracking → ∀ τ, x.tracked = some τ →
         let y := moved τ.pos
         put (if x.cfg.source = none ∧ y.p = 0 ∧ y.s = 0 then { y with state := .parked } else y)
           (exec (.motionExpiry g false) s)) ∧
       (x.state = .test → ∀ q, x.testPos = some q → put (moved q) (exec (.motionExpiry g false) s)) ∧
       (x.state = .parking →
         let y := moved 0
         put (if y.p = 0 ∧ y.s = 0 then { y with state := .parked } else y) (exec (.motionExpiry g false) s)) ∧
       (x.state = .parked → exec (.motionExpiry g false) s = .next (settleAfterrun s)))) ∧
  (∀ (s : State) (g : Fin 6),
     let x := s.gauge g
     let homes : Prop := s.active = true ∧ x.motionOn = true ∧ s.supply.underLimit = false ∧ x.state = .homing
     let after : GaugeState :=
       if s.power.mode = .afterrun then (if x.parks then .parked else .tracking)
       else if x.cfg.source = none then .parked
       else if x.cfg.sweep then .sweep
       else .tracking
     let completed (t : State) : Prop := t.gauge g = { x with
         overrun := x.overrun + 2, state := after, p := 0, s := 0, sweepBack := false, coilReported := false } ∧
       (∀ j, j < 6 → j ≠ g.val → t.gauge j = s.gauge j) ∧ s.keepsAllBut [.gauges, .link, .handed, .power] t ∧
       t.handed = s.handed ++ if x.coilReported then [.faultInactive (faultCode .gauge g .coilOpen)] else []
     (∀ y : Gauge,
       let t := putGauge g y s
       (∀ j, j < 6 → t.gauge j = if j = g.val then y else s.gauge j) ∧ t.gauges.service = s.gauges.service ∧
       s.keepsAllBut [.gauges, .link, .power] t ∧
       t.link = (if x.state = y.state then s.link else
         s.link.offer .gaugeState g (.gauge g y.state y.p)) ∧
       t.power = if x.state ≠ y.state ∧ s.power.mode = .afterrun then { s.power with parkingPending := t.someToPark }
         else s.power) ∧
     (homes →
       (x.p ≠ 0 → exec (.motionExpiry g false) s = .next (settleAfterrun (putGauge g { x with p := x.p - 2 } s)) ∧
         exec (.homingComplete g) s = .next (settleAfterrun s)) ∧
       (x.p = 0 → x.overrun + 2 < 96 →
         exec (.motionExpiry g false) s = .next (settleAfterrun (putGauge g { x with overrun := x.overrun + 2 } s)) ∧
         exec (.homingComplete g) s = .next (settleAfterrun s)) ∧
       (x.p = 0 → 96 ≤ x.overrun + 2 → ∃ t, completed t ∧
         exec (.motionExpiry g false) s = .next (settleAfterrun t) ∧
         exec (.homingComplete g) s = .next (settleAfterrun t))) ∧
     (¬homes → exec (.homingComplete g) s = .next (settleAfterrun s)))

/-- A target update forms the candidate 0 without a source, the fail position with its mark from a FAILED one, else
the curve's position, and adopts it when there is no target yet, the fail mark differs, or it lies at least the
deadband away (R79, R80). A gauge that was moving and has been frozen for 500 ms while under-voltage stands becomes
UNHOMED (R89). The end of the service mode, as the drivers take it, returns every gauge in TEST to TRACKING and
discards the test position (R92). -/
def Obligations.TargetsAreAdopted : Prop :=
  ∀ (s : State) (g : Fin 6),
    let x := s.gauge g
    let cand : Target := match x.cfg.source with
      | none => ⟨0, false⟩
      | some n =>
        if (s.sig n).quality = .failed then ⟨x.cfg.failPos, true⟩
        else ⟨(interp (x.cfg.curve.map fun p => (p.1, (p.2 : Int))) (s.sig n).value).toNat, false⟩
    let adopts : Prop := ∀ τ, x.tracked = some τ →
      τ.fail ≠ cand.fail ∨ x.cfg.deadband ≤ (τ.pos - cand.pos) + (cand.pos - τ.pos)
    (s.active = true → x.updateOn = true → adopts →
      exec (.targetUpdateExpiry g) s = .next (putGauge g { x with tracked := some cand } s)) ∧
    (¬(s.active = true ∧ x.updateOn = true ∧ adopts) → exec (.targetUpdateExpiry g) s = .next s) ∧
    (s.active = true → s.supply.underLimit = true → x.freeze = some ⟨true, true⟩ →
      exec (.gaugeFreezeExpiry g) s = .next (settleAfterrun (putGauge g { x with
        state := .unhomed, p := 0, s := 0, testPos := none, freeze := none } s))) ∧
    (s.active = false ∨ s.supply.underLimit = false ∨ x.freeze ≠ some ⟨true, true⟩ →
      exec (.gaugeFreezeExpiry g) s = .next (settleAfterrun s)) ∧
    ∀ on, s.active = true ∨ (s.powered = true ∧ Handoff.gaugeService on ∈ s.handed) →
      ∃ t, exec (.gaugeServiceChange on) s = .next (settleAfterrun t) ∧
        s.keepsAllBut [.gauges, .link, .handed, .power] t ∧ t.gauges.service = on ∧
        t.handed = s.handed.erase (.gaugeService on) ∧
        ∀ j, j < 6 → t.gauge j = if on = false ∧ (s.gauge j).state = .test
          then { s.gauge j with state := .tracking, testPos := none } else s.gauge j

/-- GAUGE_CONFIG refuses an index above 5, a source above 63, a Pmax outside 60 … 4095, fewer than 2 or more than 8
points, values that do not rise, and positions above the Pmax it carries, with RANGE; vmax and deadband are clamped
with ADJUSTED (R77). In SLEEP only the configuration changes. In RUN and AFTERRUN the target is recomputed at once
(after a change of Pmax too, log 15); a gauge that knows its position re-homes when Pmax changes, or waits in UNHOMED
during under-voltage; a gauge PARKED for want of a source and given one tracks (R78). GAUGE_TEST SET checks the index,
the service mode, the position against Pmax and the state in that order, and enters TEST with its position; END
returns a gauge in TEST to TRACKING and is OK for any other (R91, R92). GAUGE_REHOME, not taken in SLEEP, starts
homing in every state, or waits in UNHOMED during under-voltage (R93). GAUGE_READ shows six entries (R94); what counts
as frozen is the model's reading (log 26, DEDUCED), the direction while s is 0 (log 30) and RANGE before CONDITIONS in
GAUGE_REHOME (log 14) are its choice. -/
def Obligations.GaugeRequestsAreTaken : Prop :=
  (∀ (s : State) (x : Slot) (g : Nat) (c : GaugeCfg), s.asks 0x40#8 x →
     let good : Prop := g ≤ 5 ∧ (∀ n, c.source = some n → n ≤ 63) ∧ 60 ≤ c.pmax ∧ c.pmax ≤ 4095 ∧ 2 ≤ c.curve.length ∧
       c.curve.length ≤ 8 ∧ (c.curve.map Prod.fst).Pairwise (· < ·) ∧ (∀ p ∈ c.curve, p.2 ≤ c.pmax) ∧ c.failPos ≤ c.pmax
     let c1 : GaugeCfg := { c with vmax := max 1 (min 12 c.vmax), deadband := min 15 c.deadband }
     let old := s.gauge g
     let cand : Target := match c1.source with
       | none => ⟨0, false⟩
       | some n =>
         if (s.sig n).quality = .failed then ⟨c1.failPos, true⟩
         else ⟨(interp (c1.curve.map fun p => (p.1, (p.2 : Int))) (s.sig n).value).toNat, false⟩
     let y : Gauge := { old with cfg := c1, tracked := some cand }
     (¬good → exec (.gaugeConfig .good g c) s = .next (settleAfterrun (s.replied x .range))) ∧
     (good → ∃ t : State, exec (.gaugeConfig .good g c) s =
         .next (settleAfterrun (t.replied x (okOr (c1 != c)) (.gauge c1 (t.gauge g).state))) ∧
       s.keepsAllBut [.gauges, .link, .power] t ∧ (∀ j, j < 6 → j ≠ g → t.gauge j = s.gauge j) ∧
       t.gauge g = (if s.active = false then { old with cfg := c1 }
         else if old.cfg.pmax ≠ c1.pmax ∧ old.state ≠ .unhomed ∧ old.state ≠ .fault then
           (if s.supply.underLimit then { y with state := .unhomed, p := 0, s := 0, testPos := none, freeze := none }
            else { y with state := .homing, p := c1.pmax, s := 0, overrun := 0, testPos := none, freeze := none,
                          motionOn := true })
         else if old.cfg.pmax = c1.pmax ∧ old.state = .parked ∧ old.cfg.source = none ∧ c1.source ≠ none then
           { y with state := .tracking }
         else y))) ∧
  (∀ (s : State) (x : Slot) (g : Nat),
     let y := s.gauge g
     let testable : Prop := y.state = .tracking ∨ y.state = .test ∨ y.state = .parked
     (s.asks 0x42#8 x →
       (5 < g → (∀ q, exec (.gaugeTestSet .good g q) s = .next (settleAfterrun (s.replied x .range))) ∧
         exec (.gaugeTestEnd .good g) s = .next (settleAfterrun (s.replied x .range))) ∧
       (g ≤ 5 → s.gauges.service = false →
         ∀ q, exec (.gaugeTestSet .good g q) s = .next (settleAfterrun (s.replied x .conditions))) ∧
       (g ≤ 5 → s.gauges.service = true → ∀ q,
         (y.cfg.pmax < q → exec (.gaugeTestSet .good g q) s = .next (settleAfterrun (s.replied x .range))) ∧
         (q ≤ y.cfg.pmax → ¬testable →
           exec (.gaugeTestSet .good g q) s = .next (settleAfterrun (s.replied x .conditions))) ∧
         (q ≤ y.cfg.pmax → testable → exec (.gaugeTestSet .good g q) s =
           .next (settleAfterrun ((putGauge g { y with state := .test, testPos := some q } s).replied x .ok)))) ∧
       (g ≤ 5 → y.state = .test → exec (.gaugeTestEnd .good g) s =
         .next (settleAfterrun ((putGauge g { y with state := .tracking, testPos := none } s).replied x .ok))) ∧
       (g ≤ 5 → y.state ≠ .test → exec (.gaugeTestEnd .good g) s = .next (settleAfterrun (s.replied x .ok)))) ∧
     (s.asks 0x43#8 x →
       (5 < g → exec (.gaugeRehome .good g) s = .next (settleAfterrun (s.replied x .range))) ∧
       (g ≤ 5 → s.active = false → exec (.gaugeRehome .good g) s = .next (settleAfterrun (s.replied x .conditions))) ∧
       (g ≤ 5 → s.active = true → s.supply.underLimit = false → exec (.gaugeRehome .good g) s =
         .next (settleAfterrun ((putGauge g { y with
           state := .homing, p := y.cfg.pmax, s := 0, overrun := 0, testPos := none, freeze := none, motionOn := true }
           s).replied x .ok))) ∧
       (g ≤ 5 → s.active = true → s.supply.underLimit = true → exec (.gaugeRehome .good g) s =
         .next (settleAfterrun ((putGauge g { y with
           state := .unhomed, p := 0, s := 0, testPos := none, freeze := none } s).replied x .ok)))) ∧
     (s.asks 0x41#8 x → x.body = [] → exec .gaugeRead s = .next (s.replied x .ok (.gauges
       (s.gauges.gauges.toList.map fun y =>
         { state := y.state, p := y.p, s := y.s, up := y.up,
           motionTarget := (match y.state with
             | .sweep => some (if y.sweepBack then 0 else y.cfg.pmax)
             | .tracking => y.tracked.map Target.pos
             | .test => y.testPos
             | .parking => some 0
             | _ => none),
           tracked := y.tracked, testPos := if y.state = .test then y.testPos else none,
           overrun := if y.state = .homing then some y.overrun else none,
           frozen := y.freeze.isSome && s.supply.underLimit })))))

/-- The tables of the terms: a COMPARE term on a VALID value by its last result, with hysteresis for GT, GE, LT and LE
alone, on any other quality by its policy; QUALITY, FLAGGED and WARNING terms as they stand, a WARNING term true in
ACTIVE and LATCHED alone (R99, R100). ALL is their AND, ANY their OR. The suppression walk: a link whose warning is
not showing is not effective; one that is showing is effective unless its own suppressor is, so that of W8 → W9 → W10
the table of R101 holds; a walk that comes back to a warning it has visited, or would need a fifth link, stops without
suppression at whichever of its four links, which marks CONFIG_CHAIN (R101, R102). A repetition is looked for before
the state of the link (log 16). -/
def Obligations.ConditionsFollowTheirTables : Prop :=
  (∀ (s : State) (vis : Nat → WState) (n : Nat) (last : Bool),
     let r := s.sig n
     let v := r.value
     (∀ op c h p, r.quality = .valid → (termNext s vis (.compare n op c h p) last = true ↔ match op, last with
       | .gt, false => c < v
       | .gt, true => c - h ≤ v
       | .ge, false => c ≤ v
       | .ge, true => c - h ≤ v
       | .lt, false => v < c
       | .lt, true => v ≤ c + h
       | .le, false => v ≤ c
       | .le, true => v ≤ c + h
       | .eq, _ => v = c
       | .ne, _ => v ≠ c)) ∧
     (∀ op c h, r.quality ≠ .valid →
       termNext s vis (.compare n op c h .beTrue) last = true ∧
       termNext s vis (.compare n op c h .beFalse) last = false ∧
       termNext s vis (.compare n op c h .last) last = last) ∧
     (termNext s vis (.quality n .notValid) last = true ↔ r.quality ≠ .valid) ∧
     (termNext s vis (.quality n .failed) last = true ↔ r.quality = .failed) ∧
     (∀ f : SigFlags, termNext s vis (.flagged n f) last = true ↔ (f.overLimit = true ∧ r.flags.overLimit = true) ∨
       (f.underLimit = true ∧ r.flags.underLimit = true) ∨ (f.lost = true ∧ r.flags.lost = true) ∨
       (f.implausible = true ∧ r.flags.implausible = true)) ∧
     (termNext s vis (.warning n) last = true ↔ vis n = .active ∨ vis n = .latched) ∧
     (∀ rs : List Bool, (combined .all rs = true ↔ ∀ b ∈ rs, b = true) ∧ (combined .any rs = true ↔ ∃ b ∈ rs, b = true))) ∧
  (∀ (vis : Nat → WState) (sup : Nat → Option Nat) (i a b c d : Nat),
     let showing (n : Nat) : Prop := vis n = .active ∨ vis n = .offDelay ∨ vis n = .latched
     let walk := walkChain vis sup 4 [i] (sup i)
     (sup i = none → walk = some false) ∧
     (sup i = some i → walk = none) ∧
     (sup i = some a → a ≠ i →
       (¬showing a → walk = some false) ∧
       (showing a → sup a = none → walk = some true) ∧
       (showing a → sup a = some i ∨ sup a = some a → walk = none) ∧
       (showing a → sup a = some b → b ≠ i → b ≠ a →
         (¬showing b → walk = some true) ∧
         (showing b → sup b = none → walk = some false) ∧
         (showing b → sup b = some i ∨ sup b = some a ∨ sup b = some b → walk = none) ∧
         (showing b → sup b = some c → c ≠ i → c ≠ a → c ≠ b →
           (¬showing c → walk = some false) ∧
           (showing c → sup c = none → walk = some true) ∧
           (showing c → sup c = some i ∨ sup c = some a ∨ sup c = some b ∨ sup c = some c → walk = none) ∧
           (showing c → sup c = some d → d ≠ i → d ≠ a → d ≠ b → d ≠ c →
             (¬showing d → walk = some true) ∧
             (showing d → sup d = none → walk = some false) ∧
             (showing d → sup d ≠ none → walk = none))))))

/-- One scan visits W0 to W31 in order. A disabled warning stays; an enabled one finds its results from one picture of
the table, seeing this scan's states of lower warnings and the earlier states of the others, then its condition, its
suppression, CONFIG_CHAIN and its next state by the table of R103 and R104. The visit is the warning's step under its
condition less suppression, then the step of its reminder, both with all they hand on (see WarningStepsHandOn), then
WARNING_CHANGE if its state, mark or CONFIG_CHAIN is another than before (R103 to R106, R111, R112, R116); that two
occasions in one visit offer one report is the model's choice (log 50). After W31 attention list and telltales are
settled once (R98, R110, R113). Without a running scan timer no scan occurs. -/
def Obligations.ScanStepsEveryWarning : Prop :=
  ∀ (s : State),
    (s.active = false ∨ s.warnings.scanOn = false → exec .warningScan s = .next s) ∧
    (s.active = true → s.warnings.scanOn = true → ∃ t, exec .warningScan s = .next t ∧ ∃ v : Nat → State,
      v 0 = s ∧ t = settleWarnings false (v 32) ∧
      s.keepsAllBut [.warnings, .outputs, .link, .handed] t ∧
      (∀ i, i < 32 →
        let w := s.warn i
        let u := t.warn i
        let vis (j : Nat) : WState := if j < i then (t.warn j).state else (s.warn j).state
        let results := termsNext s vis w.cfg.terms w.results
        let condition := combined w.cfg.combine results
        let walk := walkChain vis (fun j => (s.warn j).cfg.suppressor) 4 [i] w.cfg.suppressor
        let ended : WState := if w.cfg.latching = true ∧ w.acked = false then .latched else .inactive
        let marked : Warning := { w with
          results := results ++ List.replicate (4 - results.length) false, condition := condition,
          suppressed := decide (walk = some true), configChain := w.configChain || decide (walk = none) }
        let visited := stepReminder i (stepWarning i (condition && !decide (walk = some true))
          ((v i).setWarnings { (v i).warnings with warnings := tset (v i).warnings.warnings i marked }))
        u.cfg = w.cfg ∧
        (w.cfg.enable = false → u = w ∧ v (i + 1) = v i) ∧
        (w.cfg.enable = true → v (i + 1) = offerWarning i w visited ∧
          u.results = results ++ List.replicate (4 - results.length) false ∧ u.condition = condition ∧
          u.suppressed = decide (walk = some true) ∧ u.configChain = (w.configChain || decide (walk = none)) ∧
          u.state = match w.state, condition && !decide (walk = some true) with
            | .inactive, false => .inactive
            | .inactive, true => if w.cfg.onDelay = 0 then .active else .onDelay
            | .onDelay, false => .inactive
            | .onDelay, true => if w.delay.getD 0 ≤ 1 then .active else .onDelay
            | .active, true => .active
            | .active, false => if w.cfg.offDelay = 0 then ended else .offDelay
            | .offDelay, true => .active
            | .offDelay, false => if w.delay.getD 0 ≤ 1 then ended else .offDelay
            | .latched, true => .active
            | .latched, false => .latched)) ∧
      t.warnings.attention = t.warnings.attentionOf .stop ++ t.warnings.attentionOf .caution ++
        t.warnings.attentionOf .info ∧
      TelltaleLaw t)

/-- One step of a warning's state: an activation clears the mark, joins the end of the activation list, asks for the
chime and reports EVENT; a delay is loaded with ⌈d / 20⌉ scans and counts down; the end of an off-delay latches an
unacknowledged latching warning and otherwise enters INACTIVE, which leaves the list, drops counts and mark, withdraws
UNTIL_ACK and WHILE_ACTIVE chimes and reports the end; a latched warning that returns asks for its chime again (R103
to R105, R111, R112). The blink clock counts 0 … 7 and around, and hands telltale outputs their requests; the end of
prove-out shows every telltale its merged pattern and offers TELLTALE_CHANGE for each (R114, R115). ON_DELAY_END,
OFF_DELAY_END and REMINDER_DUE are the step of one warning whose count comes to its end, with its WARNING_CHANGE and
the settling that follows (the model's reading of these rows, log 8); when the count is not at its last they do not
occur. To settle brings the attention list up to date; when its head changed it offers ATTENTION_CHANGE with the new
head, its severity and the list's length, none and 0 for an empty list; it settles every telltale and offers
TELLTALE_CHANGE for each whose patterns changed, or for all at the end of prove-out; then it hands every output its
request (R110, R113 to R115). A warning whose state, mark or CONFIG_CHAIN is another than before offers WARNING_CHANGE
with all three as they stand (R116). The order of these reports (log 34), and one WARNING_CHANGE where one event
brings two occasions (log 50), are the model's choice. -/
def Obligations.WarningStepsHandOn : Prop :=
  (∀ (s : State) (i : Nat), i < 32 →
     let w := s.warn i
     let scans (ms : Nat) := (ms + 19) / 20
     let put (u : Warning) (list : List Nat) : State :=
       s.setWarnings { s.warnings with warnings := tset s.warnings.warnings i u, activation := list }
     let asks : List Handoff := match w.cfg.chime with | some (p, m) => [.chimeRequest (.warning i) p m] | none => []
     let withdraws (ms : List ChimeMode) : List Handoff := match w.cfg.chime with
       | some (_, m) => if m ∈ ms then [.chimeWithdraw (.warning i)] else []
       | none => []
     let event (on : Bool) : List Handoff := if w.cfg.log then
       [if on then .faultActive (faultCode .warning i .event) else .faultInactive (faultCode .warning i .event)] else []
     let activated := (put { w with state := .active, acked := false, delay := none }
       (s.warnings.activation ++ [i])).setHanded (s.handed ++ asks ++ event true)
     let inactive := (put { w with state := .inactive, acked := false, delay := none, reminder := none }
       (s.warnings.activation.erase i)).setHanded (s.handed ++ withdraws [.untilAck, .whileActive] ++ event false)
     let latched := (put { w with state := .latched, delay := none } s.warnings.activation).setHanded
       (s.handed ++ withdraws [.whileActive])
     let ended := if w.cfg.latching = true ∧ w.acked = false then latched else inactive
     let counting (n : Nat) := put { w with delay := some (n - 1) } s.warnings.activation
     (w.state = .inactive → stepWarning i false s = s ∧
       stepWarning i true s = if w.cfg.onDelay = 0 then activated
         else put { w with state := .onDelay, delay := some (scans w.cfg.onDelay) } s.warnings.activation) ∧
     (w.state = .onDelay → stepWarning i false s = inactive ∧
       ∀ n, w.delay = some n → stepWarning i true s = if n ≤ 1 then activated else counting n) ∧
     (w.state = .active → stepWarning i true s = s ∧
       stepWarning i false s = if w.cfg.offDelay = 0 then ended
         else put { w with state := .offDelay, delay := some (scans w.cfg.offDelay) } s.warnings.activation) ∧
     (w.state = .offDelay →
       stepWarning i true s = put { w with state := .active, delay := none } s.warnings.activation ∧
       ∀ n, w.delay = some n → stepWarning i false s = if n ≤ 1 then ended else counting n) ∧
     (w.state = .latched → stepWarning i false s = s ∧
       stepWarning i true s = (put { w with state := .active, acked := false } s.warnings.activation).setHanded
         (s.handed ++ asks)) ∧
     ∀ n, w.state = .active → w.acked = true → w.reminder = some n → stepReminder i s =
       if n ≤ 1 then (put { w with acked := false, reminder := none } s.warnings.activation).setHanded (s.handed ++ asks)
       else put { w with reminder := some (n - 1) } s.warnings.activation) ∧
  (∀ (s : State) (i : Fin 32),
     let w := s.warn i
     let on : Prop := s.active = true ∧ s.warnings.scanOn = true
     let kept : List Block := [.warnings, .outputs, .link, .handed]
     let others (t : State) : Prop := s.keepsAllBut kept t ∧ TelltaleLaw t ∧ ∀ j, j < 32 → j ≠ i.val → t.warn j = s.warn j
     (s.active = true → s.warnings.blinkOn = true → ∃ t, exec .blinkClockExpiry s = .next t ∧
       s.keepsAllBut kept t ∧ t.warnings = { s.warnings with blink := (s.warnings.blink + 1) % 8 } ∧
       ∀ o, o < 16 → (t.out o).request = t.ownerRequest (t.out o).owner) ∧
     (s.active = false ∨ s.warnings.blinkOn = false → exec .blinkClockExpiry s = .next s) ∧
     (s.active = true → s.warnings.proveOut ≠ none → ∃ t, exec .proveOutExpiry s = .next t ∧ s.keepsAllBut kept t ∧
       t = settleWarnings true (s.setWarnings { s.warnings with proveOut := none }) ∧
       t.warnings.proveOut = none ∧ t.warnings.warnings = s.warnings.warnings ∧
       ∀ n, n < 32 → tget t.warnings.telltales n = ⟨s.warnings.merged n, s.warnings.merged n⟩) ∧
     (s.active = false ∨ s.warnings.proveOut = none → exec .proveOutExpiry s = .next s) ∧
     (on → w.state = .onDelay → w.delay = some 1 → ∃ t, exec (.onDelayEnd i) s = .next t ∧ others t ∧
       t = settleWarnings false (offerWarning i w (stepWarning i true s)) ∧
       t.warn i = { w with state := .active, acked := false, delay := none } ∧
       t.warnings.activation = s.warnings.activation ++ [i.val]) ∧
     (¬on ∨ w.state ≠ .onDelay ∨ (∃ n, w.delay = some n ∧ 1 < n) → exec (.onDelayEnd i) s = .next s) ∧
     (on → w.state = .offDelay → w.delay = some 1 → ∃ t, exec (.offDelayEnd i) s = .next t ∧ others t ∧
       t = settleWarnings false (offerWarning i w (stepWarning i false s)) ∧
       (w.cfg.latching = true → w.acked = false → t.warn i = { w with state := .latched, delay := none }) ∧
       (w.cfg.latching = false ∨ w.acked = true →
         t.warn i = { w with state := .inactive, acked := false, delay := none, reminder := none } ∧
         t.warnings.activation = s.warnings.activation.erase i)) ∧
     (¬on ∨ w.state ≠ .offDelay ∨ (∃ n, w.delay = some n ∧ 1 < n) → exec (.offDelayEnd i) s = .next s) ∧
     (on → w.state = .active → w.acked = true → w.reminder = some 1 → ∃ t, exec (.reminderDue i) s = .next t ∧ others t ∧
       t = settleWarnings false (offerWarning i w (stepReminder i s)) ∧
       t.warn i = { w with acked := false, reminder := none } ∧
       ∀ p m, w.cfg.chime = some (p, m) → .chimeRequest (.warning i) p m ∈ t.handed) ∧
     (¬on ∨ w.state ≠ .active ∨ w.acked = false ∨ w.reminder = none ∨ (∃ n, w.reminder = some n ∧ 1 < n) →
       exec (.reminderDue i) s = .next s)) ∧
  (∀ (s : State) (all : Bool),
     let u := s.warnings
     let xs := u.attentionOf .stop ++ u.attentionOf .caution ++ u.attentionOf .info
     let settled (n : Nat) : Telltale := ⟨u.merged n, if u.proveOut.isSome then .steady else u.merged n⟩
     let headed : Link := if xs.head? = u.attention.head? then s.link
       else s.link.offer .attentionChange 0 (.attention (xs.head?.map fun i => (i, (s.warn i).cfg.severity)) xs.length)
     (∃ t : State, settleWarnings all s = (List.range 16).foldl (fun v o => handRequest o v) t ∧
       s.keepsAllBut [.warnings, .link] t ∧
       t.warnings = { u with attention := xs, telltales := t.warnings.telltales } ∧
       (∀ n, n < 32 → tget t.warnings.telltales n = settled n) ∧
       t.link = (List.range 32).foldl (fun l n => if all = true ∨ tget u.telltales n ≠ settled n
         then l.offer .telltaleChange n (.telltale n (settled n).shown (settled n).merged u.proveOut.isSome) else l) headed) ∧
     ∀ i (old : Warning), i < 32 →
       let w := s.warn i
       offerWarning i old s = if w.state = old.state ∧ w.acked = old.acked ∧ w.configChain = old.configChain then s
         else s.setLink (s.link.offer .warningChange i (.warning i w.state w.acked w.configChain)))

/-- An ACK edge and WARNING_ACK HEAD acknowledge the head of the attention list, or nothing when it is empty; INDEX
one in it, else CONDITIONS, above 31 RANGE; ALL every one, with the count (R107 to R109). To acknowledge sets the mark
in ACTIVE and OFF_DELAY, with the reminder at 50 scans a second, and ends a LATCHED warning; the warning leaves the
attention list, and lists and telltales are settled at once, after the last of them, with the reports that brings, and
each offers WARNING_CHANGE (R107, R109, R116). That an UNTIL_ACK warning acknowledged in LATCHED sends one withdrawal
is the model's choice (log 55). The premise is `AttentionLaw`. -/
def Obligations.AcknowledgementsSettle : Prop :=
  ∀ (s : State), AttentionLaw s →
    let xs := s.warnings.attention
    let acked (w : Warning) : Warning :=
      if w.state = .latched then { w with state := .inactive, acked := false, delay := none, reminder := none }
      else { w with acked := true, reminder := if w.cfg.reminder = 0 then none else some (50 * w.cfg.reminder) }
    let done (base : State) (ys : List Nat) (t : State) : Prop :=
      t = settleWarnings false (ys.foldl (fun u i => acknowledge i u) base) ∧
      (∀ i, i < 32 → t.warn i = if i ∈ ys then acked (s.warn i) else s.warn i) ∧
      t.warnings.attention = xs.filter (fun i => decide (i ∉ ys)) ∧ TelltaleLaw t ∧
      (∀ i ∈ ys, ∀ p, (s.warn i).cfg.chime = some (p, .untilAck) → .chimeWithdraw (.warning i) ∈ t.handed) ∧
      (∀ i ∈ ys, (s.warn i).state = .latched → (s.warn i).cfg.log = true →
        .faultInactive (faultCode .warning i .event) ∈ t.handed)
    (∀ i, i < 32 →
      let w := s.warn i
      let withdraws (ms : List ChimeMode) : List Handoff := match w.cfg.chime with
        | some (_, m) => if m ∈ ms then [.chimeWithdraw (.warning i)] else []
        | none => []
      let put (list : List Nat) : State :=
        s.setWarnings { s.warnings with warnings := tset s.warnings.warnings i (acked w), activation := list }
      (w.state = .active ∨ w.state = .offDelay → acknowledge i s =
        offerWarning i w ((put s.warnings.activation).setHanded (s.handed ++ withdraws [.untilAck]))) ∧
      (w.state = .latched → acknowledge i s = offerWarning i w ((put (s.warnings.activation.erase i)).setHanded
        (s.handed ++ withdraws [.untilAck, .whileActive] ++
          if w.cfg.log then [.faultInactive (faultCode .warning i .event)] else []))) ∧
      (w.state = .inactive ∨ w.state = .onDelay → acknowledge i s = s)) ∧
    (s.active = true →
      (∀ i rest, xs = i :: rest → ∃ t, exec .ackEdge s = .next t ∧
        s.keepsAllBut [.warnings, .outputs, .link, .handed] t ∧
        done (s.setHanded (s.handed.erase .ackEdge)) [i] t) ∧
      (xs = [] → exec .ackEdge s = .next (s.setHanded (s.handed.erase .ackEdge)))) ∧
    ∀ x, s.asks 0x52#8 x →
      (xs = [] → exec (.warningAckHead .good) s = .next (s.replied x .ok (.acknowledged none))) ∧
      (∀ i rest, xs = i :: rest → ∃ t : State, exec (.warningAckHead .good) s =
        .next (t.replied x .ok (.acknowledged (some i))) ∧ s.keepsAllBut [.warnings, .outputs, .link, .handed] t ∧
        done s [i] t) ∧
      (∀ i, 31 < i → exec (.warningAckIndex .good i) s = .next (s.replied x .range)) ∧
      (∀ i, i ≤ 31 → i ∉ xs → exec (.warningAckIndex .good i) s = .next (s.replied x .conditions)) ∧
      (∀ i, i ∈ xs → ∃ t : State, exec (.warningAckIndex .good i) s = .next (t.replied x .ok) ∧
        s.keepsAllBut [.warnings, .outputs, .link, .handed] t ∧ done s [i] t) ∧
      ∃ t : State, exec (.warningAckAll .good) s = .next (t.replied x .ok (.ackCount xs.length)) ∧
        s.keepsAllBut [.warnings, .outputs, .link, .handed] t ∧ done s xs t

/-- WARNING_CONFIG refuses with RANGE what R96 lists, clamps delays and reminder with ADJUSTED, and restarts the
warning: INACTIVE, every result and mark clear, out of the activation list, its chime withdrawn whatever its mode and
its EVENT reported inactive if it was shown; WARNING_CHANGE follows if state, mark or CONFIG_CHAIN changed, and lists
and telltales are settled with the reports that brings (R97, R116). WARNING_READ, TELLTALE_READ and ATTENTION_READ
show and change nothing (R117). LAMP_TEST, in RUN alone, starts prove-out, under which every telltale shows STEADY,
with TELLTALE_CHANGE for each that changed (R115). That a position counts from 0 is the model's choice (log 33). -/
def Obligations.WarningRequestsAreTaken : Prop :=
  ∀ (s : State) (x : Slot) (i : Nat),
    (s.asks 0x50#8 x → ∀ c : WarningCfg,
      let termGood (t : Term) : Prop := match t with
        | .compare n _ _ h _ => n ≤ 63 ∧ 0 ≤ h
        | .quality n _ => n ≤ 63
        | .flagged n f => n ≤ 63 ∧ (f.overLimit = true ∨ f.underLimit = true ∨ f.lost = true ∨ f.implausible = true)
        | .warning w => w ≤ 31
      let good : Prop := i ≤ 31 ∧ 1 ≤ c.terms.length ∧ c.terms.length ≤ 4 ∧ (∀ t ∈ c.terms, termGood t) ∧
        (∀ t, c.telltale = some t → t ≤ 31) ∧ (∀ p m, c.chime = some (p, m) → p ≤ 7 ∧ m ≠ .endless) ∧
        (∀ j, c.suppressor = some j → j ≤ 31)
      let c1 : WarningCfg := { c with
        onDelay := min 60000 c.onDelay, offDelay := min 60000 c.offDelay, reminder := min 600 c.reminder }
      (¬good → exec (.warningConfig .good i c) s = .next (s.replied x .range)) ∧
      (good → ∃ t : State, exec (.warningConfig .good i c) s =
          .next (t.replied x (okOr (c1 != c)) (.warningCfg c1)) ∧ s.keepsAllBut [.warnings, .outputs, .link, .handed] t ∧
        (let w := s.warn i
         let withdraws : List Handoff := match w.cfg.chime with
           | some (_, m) => if m = .endless then [] else [.chimeWithdraw (.warning i)]
           | none => []
         t = settleWarnings false (offerWarning i w ((s.setWarnings { s.warnings with
           warnings := tset s.warnings.warnings i
             ⟨c1, .inactive, false, [false, false, false, false], false, false, none, none, false⟩,
           activation := s.warnings.activation.erase i }).setHanded (s.handed ++ withdraws ++
             if w.cfg.log = true ∧ w.state ∈ [WState.active, .offDelay, .latched]
             then [.faultInactive (faultCode .warning i .event)] else [])))) ∧
        (∀ j, j < 32 → t.warn j = if j = i then
          ⟨c1, .inactive, false, [false, false, false, false], false, false, none, none, false⟩ else s.warn j) ∧
        t.warnings.activation = s.warnings.activation.erase i ∧
        t.warnings.attention = t.warnings.attentionOf .stop ++ t.warnings.attentionOf .caution ++
          t.warnings.attentionOf .info ∧ TelltaleLaw t ∧
        ((s.warn i).cfg.chime ≠ none → (∀ p, (s.warn i).cfg.chime ≠ some (p, .endless)) →
          .chimeWithdraw (.warning i) ∈ t.handed) ∧
        ((s.warn i).cfg.log = true → (s.warn i).state ∈ [WState.active, .offDelay, .latched] →
          .faultInactive (faultCode .warning i .event) ∈ t.handed))) ∧
    (s.asks 0x51#8 x →
      (31 < i → exec (.warningRead .good i) s = .next (s.replied x .range)) ∧
      (i ≤ 31 → ∃ place, exec (.warningRead .good i) s = .next (s.replied x .ok (.warning (s.warn i) place)) ∧
        (place = none ↔ i ∉ s.warnings.activation) ∧
        ∀ n, place = some n → s.warnings.activation[n]? = some i ∧ ∀ m, m < n → s.warnings.activation[m]? ≠ some i)) ∧
    (s.asks 0x53#8 x → x.body = [] → exec .telltaleRead s = .next (s.replied x .ok (.telltales
      s.warnings.telltales.toList (match s.warnings.proveOut with
        | some t0 => 3000 - (s.clock - t0) / 1000
        | none => 0) s.warnings.blink))) ∧
    (s.asks 0x55#8 x → x.body = [] → exec .attentionRead s = .next (s.replied x .ok (.attention
      s.warnings.attention.length
      (s.warnings.attention.map fun j => (j, (s.warn j).cfg.severity, (s.warn j).state))))) ∧
    (s.asks 0x54#8 x → x.body = [] →
      (s.power.mode ≠ .run → exec .lampTest s = .next (s.replied x .conditions)) ∧
      (s.power.mode = .run → ∃ t : State, exec .lampTest s = .next (t.replied x .ok) ∧
        t = settleWarnings false (s.setWarnings { s.warnings with proveOut := some s.clock }) ∧
        s.keepsAllBut [.warnings, .outputs, .link, .handed] t ∧ t.warnings.proveOut = some s.clock ∧
        t.warnings.warnings = s.warnings.warnings ∧ t.warnings.activation = s.warnings.activation ∧
        ∀ n, n < 32 → (tget t.warnings.telltales n).shown = .steady ∧
          (tget t.warnings.telltales n).merged = s.warnings.merged n))

/-- CHIME_PATTERN_SET refuses with RANGE what R119 lists and clamps with ADJUSTED; the new record stands, every
request keeps its arrival and takes its place by the new priority. A sounding request that names the record is marked,
in MARK to run on; in SPACE and GAP one that is marked, or no longer the head, gives way to the head at once, and any
other sounds on; a tail keeps its length, unless the head now has a higher priority than the tail's (R126, R128): that
the tail's is the one its pattern had at the finish, also when its record is given another, is the model's choice (log
35). Everything else of the generator stays. CHIME_VOLUME clamps to 3, in force from the next carrier cycle (R120).
Every reply ends with the status block after the effect (R130). CHIME_PLAY refuses an index above 7 or another mode
with RANGE, an unplayable pattern and SLEEP with CONDITIONS, and otherwise enters the host's request; CHIME_STOP
withdraws it (R129). RANGE before CONDITIONS is the model's choice (log 14), and so are the counts shown while nothing
sounds (log 36) and a carrier count or repeats above 255 taken as they stand (log 42). -/
def Obligations.ChimeRequestsAreTaken : Prop :=
  ∀ (s : State) (x : Slot),
    let c := s.chime
    let status (c : Chime) : ReplyBody := .chime ⟨c.state, c.sounding.map fun y => (y.who, y.pattern), c.group,
      c.markCount, c.volume, c.requests.length,
      c.requests.map fun r => (r.who, r.pattern, r.mode, (tget c.patterns r.pattern).priority)⟩
    (s.asks 0x58#8 x → ∀ i (p : ChimePattern),
      let good : Prop := i ≤ 7 ∧ p.carrierA.high ≠ 0 ∧ p.carrierA.low ≠ 0 ∧
        (∀ b, p.carrierB = some b → b.high ≠ 0 ∧ b.low ≠ 0) ∧ (p.mode = .alternate → p.carrierB ≠ none) ∧ p.priority ≤ 7
      let p1 : ChimePattern := { p with
        mark := max 1 (min 200 p.mark), space := min 200 p.space, gap := min 500 p.gap,
        groupSize := max 1 (min 8 p.groupSize) }
      (¬good → exec (.chimePatternSet .good i p) s = .next (s.replied x .range)) ∧
      (good → ∃ d : Chime, exec (.chimePatternSet .good i p) s =
          .next ((s.setChime d).replied x (okOr (p1 != p)) (status d)) ∧
        d.requests.Perm c.requests ∧
        (let named : Chime := { c with
           patterns := tset c.patterns i p1, requests := d.requests,
           sounding := c.sounding.map fun y => if y.pattern = i then { y with reconfigured := true } else y }
         let headStarts : Chime := match d.requests with
           | [] => { named with state := .idle, sounding := none, phase := none, level := false }
           | r :: _ =>
             let q := tget named.patterns r.pattern
             { named with
               state := .mark, sounding := some ⟨r.who, r.pattern, r.mode, false, false⟩, group := 1, markCount := 1,
               phase := some q.mark, carrier := q.carrierA, level := true, ticks := q.carrierA.high, drive := c.volume }
         (c.state = .idle → d = headStarts) ∧ (c.state = .mark → d = named) ∧
         (c.state = .tail → d = match d.requests with
           | [] => named
           | r :: _ => if c.tailPriority < (tget named.patterns r.pattern).priority then headStarts else named) ∧
         (∀ y, c.state = .space ∨ c.state = .gap → c.sounding = some y →
           let stays : Prop := y.pattern ≠ i ∧ y.replaced = false ∧ y.reconfigured = false ∧
             ∃ r rest, d.requests = r :: rest ∧ r.who = y.who
           (stays → d = named) ∧ (¬stays → d = headStarts))) ∧
        (∀ j, j < 8 → tget d.patterns j = if j = i then p1 else tget c.patterns j) ∧
        ((c.requests.map ChimeReq.arrival).Nodup → d.requests.Pairwise fun a b =>
          (tget d.patterns b.pattern).priority < (tget d.patterns a.pattern).priority ∨
          ((tget d.patterns a.pattern).priority = (tget d.patterns b.pattern).priority ∧ a.arrival < b.arrival)) ∧
        (c.state = .mark → d.state = .mark ∧ d.phase = c.phase ∧ d.carrier = c.carrier ∧
          d.sounding = c.sounding.map fun y => if y.pattern = i then { y with reconfigured := true } else y) ∧
        (∀ y, c.state = .space ∨ c.state = .gap → c.sounding = some y → y.pattern = i → ∀ r rest, d.requests = r :: rest →
          d.state = .mark ∧ d.sounding = some ⟨r.who, r.pattern, r.mode, false, false⟩ ∧ d.group = 1 ∧ d.markCount = 1))) ∧
    (s.asks 0x5B#8 x → ∀ v,
      let d := { c with volume := min 3 v }
      exec (.chimeVolume .good v) s = .next ((s.setChime d).replied x (okOr (decide (3 < v))) (status d))) ∧
    (s.asks 0x59#8 x → ∀ i m,
      (7 < i ∨ (m ≠ .once ∧ m ≠ .endless) → exec (.chimePlay .good i m) s = .next (s.replied x .range)) ∧
      (i ≤ 7 → m = .once ∨ m = .endless →
        let able : Prop := (tget c.patterns i).carrierA.high ≠ 0 ∧ (tget c.patterns i).carrierA.low ≠ 0
        (¬able ∨ s.active = false → exec (.chimePlay .good i m) s = .next (s.replied x .conditions)) ∧
        (able → s.active = true → exec (.chimePlay .good i m) s =
          .next ((s.setChime (c.enter .host i m)).replied x .ok (status (c.enter .host i m)))))) ∧
    (s.asks 0x5A#8 x → x.body = [] →
      exec .chimeStop s = .next ((s.setChime (c.withdraw .host)).replied x .ok (status (c.withdraw .host))))

/-- A request for a playable pattern takes the next arrival order, or replaces the requester's own in place; an
unplayable one withdraws it (R121). The list stays in the order of R122. A first request sounds at once from its first
mark; in MARK nothing is cut, and a request that replaces the sounding one marks it (R124, R127). In SPACE and GAP a
replacement of the sounding request, or another request at the head, starts the head at once, and with the sounding
request still at the head the sound goes on; in TAIL a head of higher priority than the tail's starts at once, any
other waits (R126, R127). A withdrawal takes the request out; of the sounding one it ends the sound at once, and the
head, if there is one, starts (R123, R127); that a withdrawal by the sounding requester does so also after its request
was replaced is the model's reading (log 17, DEDUCED). The premise is `ChimeListLaw`. -/
def Obligations.ChimeListTakesRequests : Prop :=
  ∀ (s : State) (who : Requester) (p : Nat) (m : ChimeMode), ChimeListLaw s →
    let c := s.chime
    let able : Prop := (tget c.patterns p).carrierA.high ≠ 0 ∧ (tget c.patterns p).carrierA.low ≠ 0
    let pends : Prop := ∃ r ∈ c.requests, r.who = who
    let soundsHead (d : Chime) : Prop := match d.requests with
      | [] => d.state = .idle ∧ d.sounding = none ∧ d.phase = none ∧ d.level = false
      | r :: _ => d.state = .mark ∧ d.sounding = some ⟨r.who, r.pattern, r.mode, false, false⟩ ∧ d.group = 1 ∧
        d.markCount = 1 ∧ d.carrier = (tget d.patterns r.pattern).carrierA ∧
        d.phase = some (tget d.patterns r.pattern).mark ∧ d.level = true ∧ d.drive = d.volume
    let goesOn (d : Chime) : Prop := d = { c with requests := d.requests, nextArrival := d.nextArrival }
    let changesHead (d : Chime) : Prop :=
      (∀ y, c.state = .space ∨ c.state = .gap → c.sounding = some y → y.who ≠ who →
        ((∃ r rest, d.requests = r :: rest ∧ r.who = y.who) → goesOn d) ∧
        ((∀ r rest, d.requests = r :: rest → r.who ≠ y.who) → soundsHead d)) ∧
      (c.state = .tail → (∀ y, c.sounding = some y → y.who ≠ who) → match d.requests with
        | [] => goesOn d
        | r :: _ => if c.tailPriority < (tget c.patterns r.pattern).priority then soundsHead d else goesOn d)
    let withdrawn (d : Chime) : Prop :=
      d.requests = c.requests.filter (fun r => decide (r.who ≠ who)) ∧ (¬pends → d = c) ∧
      d.patterns = c.patterns ∧ d.volume = c.volume ∧ d.nextArrival = c.nextArrival ∧ (pends → changesHead d) ∧
      (pends → (∃ y, c.sounding = some y ∧ y.who = who) → soundsHead d) ∧
      (pends → c.state = .mark → (∀ y, c.sounding = some y → y.who ≠ who) →
        d.state = .mark ∧ d.sounding = c.sounding ∧ d.phase = c.phase)
    (s.active = true →
      (¬able → ∃ d, exec (.chimeRequest who p m) s =
        .next ((s.setHanded (s.handed.erase (.chimeRequest who p m))).setChime d) ∧ withdrawn d) ∧
      (able → ∃ d, exec (.chimeRequest who p m) s =
          .next ((s.setHanded (s.handed.erase (.chimeRequest who p m))).setChime d) ∧
        d.patterns = c.patterns ∧ d.volume = c.volume ∧
        d.requests.Perm (if c.requests.any (fun r => decide (r.who = who))
          then c.requests.map fun r => if r.who = who then { r with pattern := p, mode := m } else r
          else c.requests ++ [⟨who, p, m, c.nextArrival⟩]) ∧
        (d.requests.Pairwise fun a b =>
          (tget d.patterns b.pattern).priority < (tget d.patterns a.pattern).priority ∨
          ((tget d.patterns a.pattern).priority = (tget d.patterns b.pattern).priority ∧ a.arrival < b.arrival)) ∧
        (pends → d.nextArrival = c.nextArrival) ∧ (¬pends → d.nextArrival = c.nextArrival + 1) ∧
        (c.state = .idle → soundsHead d) ∧ changesHead d ∧
        (∀ y, c.state = .space ∨ c.state = .gap → c.sounding = some y → y.who = who → soundsHead d) ∧
        (c.state = .mark → d.state = .mark ∧ d.phase = c.phase ∧ d.carrier = c.carrier ∧
          d.sounding = if c.requests.any (fun r => decide (r.who = who))
            then c.sounding.map fun y => if y.who = who then { y with replaced := true } else y else c.sounding))) ∧
    (s.active = true ∨ (s.powered = true ∧ Handoff.chimeWithdraw who ∈ s.handed) →
      ∃ d, exec (.chimeWithdrawal who) s = .next ((s.setHanded (s.handed.erase (.chimeWithdraw who))).setChime d) ∧
        withdrawn d)

/-- At a mark's end a request whose last mark of its last group this was is finished: it leaves the list and its space
plus gap is a tail, which a waiting head of higher priority cuts short and any other head waits out; with space plus
gap 0 the head starts at once, or the generator is IDLE. One that is no longer the head, replaced or reconfigured
gives way to the head at once; else the space follows, then the next mark, or after a group's last mark the gap and
the next group, and a request that has to give way does so at the next mark it would begin. At the tail's end the head
starts (R124 to R126). In other states these expiries do not occur. The tail's priority is the one the pattern had at
the finish (log 35), and group and mark counts stay after a playing (log 36), both the model's choice. In MARK the
carrier is high for its high count of tone ticks, then low for its low count, and again; a new cycle takes the volume
in force (R120; log 38, DEDUCED). The sense path judges in MARK at volume 1 to 3 alone: 200 ms of readings of one bad
kind confirm the fault, another kind starts its own run, a loaded reading clears it; while a fault stands, 200 ms of
loaded readings end it, and a bad one clears that run (R131). That a reading adds 10 ms to a run, and that the volume
tested is the one the present cycle drives with, is the model's reading (log 25, DEDUCED). -/
def Obligations.PlaybackFollowsThePattern : Prop :=
  (∀ (s : State),
     let c := s.chime
     let begins (c : Chime) (y : Sounding) : Chime :=
       let p := tget c.patterns y.pattern
       let k := match p.mode, p.carrierB with
         | .alternate, some b => if c.markCount % 2 = 1 then p.carrierA else b
         | _, _ => p.carrierA
       { c with state := .mark, phase := some p.mark, carrier := k, level := true, ticks := k.high, drive := c.volume }
     let head (c : Chime) : Chime := match c.requests with
       | [] => { c with state := .idle, sounding := none, phase := none, level := false }
       | r :: _ => begins { c with sounding := some ⟨r.who, r.pattern, r.mode, false, false⟩, group := 1, markCount := 1 }
         ⟨r.who, r.pattern, r.mode, false, false⟩
     let gives (e : Instr) (d : Chime) : Prop := exec e s = .next (s.setChime d)
     (∀ y, c.sounding = some y →
       let p := tget c.patterns y.pattern
       let first : Prop := ∃ r rest, c.requests = r :: rest ∧ r.who = y.who
       let stays : Prop := first ∧ y.replaced = false ∧ y.reconfigured = false
       let lastGroup : Prop := match y.mode with
         | .once => c.group = max 1 p.repeats
         | .untilAck => p.repeats ≠ 0 ∧ c.group = p.repeats
         | .whileActive => p.repeats ≠ 0 ∧ c.group = p.repeats
         | .endless => False
       let finished : Prop := y.replaced = false ∧ y.reconfigured = false ∧ c.markCount = p.groupSize ∧ lastGroup
       let left := c.requests.filter fun r => decide (r.who ≠ y.who)
       let urgent : Prop := ∃ r rest, left = r :: rest ∧ p.priority < (tget c.patterns r.pattern).priority
       let nextGroup (c : Chime) : Chime := { c with group := c.group + 1, markCount := 1 }
       let afterSpace (mark : Chime → Chime) (c : Chime) : Chime :=
         if c.markCount < p.groupSize then mark { c with markCount := c.markCount + 1 }
         else if p.gap = 0 then mark (nextGroup c)
         else { c with state := .gap, phase := some p.gap }
       (c.state = .mark →
         (finished → ∃ d, gives .markExpiry d ∧ (ChimeListLaw s →
           (p.space + p.gap = 0 → d = head { c with requests := left }) ∧
           (p.space + p.gap ≠ 0 → urgent → d = head { c with requests := left, tailPriority := p.priority }) ∧
           (p.space + p.gap ≠ 0 → ¬urgent → d = { c with
             requests := left, state := .tail, sounding := none, phase := some (p.space + p.gap), level := false,
             tailPriority := p.priority }))) ∧
         (¬finished → ¬stays → gives .markExpiry (head c)) ∧
         (¬finished → stays → p.space ≠ 0 →
           gives .markExpiry { c with level := false, state := .space, phase := some p.space }) ∧
         (¬finished → stays → p.space = 0 →
           gives .markExpiry (afterSpace (fun c => begins c y) { c with level := false }))) ∧
       (c.state = .space → stays → gives .spaceExpiry (afterSpace (fun c => begins c y) c)) ∧
       (c.state = .space → ¬stays → gives .spaceExpiry (afterSpace head c)) ∧
       (c.state = .gap → stays → gives .gapExpiry (begins (nextGroup c) y)) ∧
       (c.state = .gap → ¬stays → gives .gapExpiry (head (nextGroup c)))) ∧
     (c.state = .tail → gives .tailExpiry (head c)) ∧
     (c.state ≠ .mark → exec .markExpiry s = .next s) ∧ (c.state ≠ .space → exec .spaceExpiry s = .next s) ∧
     (c.state ≠ .gap → exec .gapExpiry s = .next s) ∧ (c.state ≠ .tail → exec .tailExpiry s = .next s)) ∧
  (∀ (s : State) (reading : ToneReading),
     let c := s.chime
     let kind : Option ToneFault := match reading with
       | .loaded => none
       | .opened => some .opened
       | .shorted => some .shorted
     let code (k : ToneFault) : Nat := faultCode .tone 0 (match k with | .opened => .opened | .shorted => .shorted)
     let judged : Prop := c.state = .mark ∧ 1 ≤ c.drive
     (c.state ≠ .mark → exec .toneTick s = .next s) ∧
     (c.state = .mark →
       (1 < c.ticks → exec .toneTick s = .next (s.setChime { c with ticks := c.ticks - 1 })) ∧
       (c.ticks ≤ 1 → c.level = true →
         exec .toneTick s = .next (s.setChime { c with level := false, ticks := c.carrier.low })) ∧
       (c.ticks ≤ 1 → c.level = false → exec .toneTick s = .next
         (s.setChime { c with level := true, ticks := c.carrier.high, drive := c.volume }))) ∧
     (¬judged → exec (.toneSenseExpiry reading) s = .next s) ∧
     (judged → c.fault = none →
       (kind = none → exec (.toneSenseExpiry reading) s = .next (s.setChime { c with badRun := none })) ∧
       ∀ k, kind = some k →
         ((∀ n, c.badRun ≠ some (k, n)) →
           exec (.toneSenseExpiry reading) s = .next (s.setChime { c with badRun := some (k, 0) })) ∧
         ∀ n, c.badRun = some (k, n) →
           (n + 10 < 200 → exec (.toneSenseExpiry reading) s =
             .next (s.setChime { c with badRun := some (k, n + 10) })) ∧
           (200 ≤ n + 10 → exec (.toneSenseExpiry reading) s =
             .next ((s.setChime { c with badRun := none, goodRun := none, fault := some k }).setHanded
               (s.handed ++ [.faultActive (code k)])))) ∧
     ∀ k, judged → c.fault = some k →
       (kind ≠ none → exec (.toneSenseExpiry reading) s = .next (s.setChime { c with goodRun := none })) ∧
       (kind = none →
         (c.goodRun = none → exec (.toneSenseExpiry reading) s = .next (s.setChime { c with goodRun := some 0 })) ∧
         ∀ n, c.goodRun = some n →
           (n + 10 < 200 → exec (.toneSenseExpiry reading) s = .next (s.setChime { c with goodRun := some (n + 10) })) ∧
           (200 ≤ n + 10 → exec (.toneSenseExpiry reading) s =
             .next ((s.setChime { c with badRun := none, goodRun := none, fault := none }).setHanded
               (s.handed ++ [.faultInactive (code k)])))))

/-- A derivation of one door: the implausibility time runs while CLOSED and OPEN are both active, the travel time
while the door is between positions and not stuck; the implausible mark ends when both are VALID and not both active,
the stuck mark when one is active, each with its fault; then the first row of the table of 8.2 that holds gives the
code, which is written to the door's signal and, when it changed, offered as DOOR_CHANGE with the cycle count. An
input that does not read VALID with 0 or 1 is not VALID (8.1). A door that derives SECURED with the opened mark
completes a cycle, and every 16th queues the door counts item, each one while a RESET waits (R135 to R138, R140, R151,
R177). That the implausibility time runs again for a door already marked is the model's reading (log 21, DEDUCED). -/
def Obligations.DoorsDeriveByTheTable : Prop :=
  ∀ (s : State) (d : Fin 4), s.active = true →
    let x := s.door d
    let c := x.cfg
    let rec_ (k : Option Nat) : Option SigRec := k.map fun k => s.sig (16 + k)
    let on (k : Option Nat) : Prop := ∃ r, rec_ k = some r ∧ r.quality = .valid ∧ r.value = 1
    let off (k : Option Nat) : Prop := ∃ r, rec_ k = some r ∧ r.quality = .valid ∧ r.value = 0
    let allValid : Prop := ∀ k, (c.closed = some k ∨ c.locked = some k ∨ c.openSw = some k ∨ c.edge = some k ∨
      c.emergency = some k) → (s.sig (16 + k)).quality = .valid ∧
        ((s.sig (16 + k)).value = 0 ∨ (s.sig (16 + k)).value = 1)
    let t := deriveDoor d s
    let y := t.door d
    let secured : Prop := on c.closed ∧ (c.locked = none ∨ on c.locked)
    (c.fitted = true →
      (on c.closed → on c.openSw → y.implausTimer = some (x.implausTimer.getD s.clock)) ∧
      (¬(on c.closed ∧ on c.openSw) → y.implausTimer = none) ∧
      (y.implausible = true ↔ x.implausible = true ∧
        ¬((on c.closed ∨ off c.closed) ∧ (on c.openSw ∨ off c.openSw) ∧ ¬(on c.closed ∧ on c.openSw))) ∧
      (y.stuck = true ↔ x.stuck = true ∧ ¬on c.closed ∧ ¬on c.openSw) ∧
      (let between : Prop := c.openSw ≠ none ∧ allValid ∧ ¬on c.emergency ∧ off c.closed ∧ off c.openSw
       (between → y.stuck = false → y.travel = some (x.travel.getD s.clock)) ∧
       (¬between ∨ y.stuck = true → y.travel = none))) ∧
    (c.fitted = false → y.code = 8) ∧
    (c.fitted = true →
      (on c.emergency → y.code = 5) ∧
      (¬on c.emergency → ¬allValid ∨ y.implausible = true → y.code = 7) ∧
      (¬on c.emergency → allValid → y.implausible = false →
        (y.stuck = true → y.code = 6) ∧
        (y.stuck = false → on c.edge → ¬secured → ¬on c.openSw → y.code = 4) ∧
        (y.stuck = false → secured → y.code = 0) ∧
        (y.stuck = false → ¬secured → ¬on c.edge ∨ on c.openSw →
          (on c.closed → off c.locked → y.code = 1) ∧
          (¬(on c.closed ∧ off c.locked) → on c.openSw → y.code = 3) ∧
          (¬(on c.closed ∧ off c.locked) → ¬on c.openSw → y.code = 2)))) ∧
    (let wasOpened : Prop := x.opened = true ∧ x.code ≠ 0
     (y.code = 3 → y.opened = true ∧ y.cycles = x.cycles ∧ y.sinceCommit = x.sinceCommit) ∧
     (y.code ≠ 3 → y.code ≠ 0 → (y.opened = true ↔ wasOpened) ∧ y.cycles = x.cycles ∧ y.sinceCommit = x.sinceCommit) ∧
     (y.code = 0 → y.opened = false ∧
       (x.opened = false → y.cycles = x.cycles ∧ y.sinceCommit = x.sinceCommit) ∧
       (x.opened = true → y.cycles = satSucc 4294967295 x.cycles ∧
         (x.sinceCommit + 1 < 16 → y.sinceCommit = x.sinceCommit + 1) ∧
         (16 ≤ x.sinceCommit + 1 → y.sinceCommit = 0)))) ∧
    t.power = (if y.code = 0 ∧ x.opened = true ∧ (16 ≤ x.sinceCommit + 1 ∨ s.link.resetPending = true) ∧
        .doorCounts ∉ s.power.commit then { s.power with commit := s.power.commit ++ [.doorCounts] } else s.power) ∧
    (∀ j, j < 4 → j ≠ d.val → t.door j = s.door j) ∧ y.cfg = c ∧
    (∀ i, i < 64 → i ≠ 40 + d.val → t.sig i = s.sig i) ∧
    ((s.sig (40 + d)).forced = false → (t.sig (40 + d)).quality = .valid ∧
      (y.code ≤ (s.sig (40 + d)).cfg.rangeMax → (s.sig (40 + d)).cfg.rangeMin ≤ y.code →
        (t.sig (40 + d)).value = y.code)) ∧
    (y.code ≤ (s.sig (40 + d)).cfg.rangeMax → (s.sig (40 + d)).cfg.rangeMin ≤ y.code →
      t.link = if y.code = x.code then s.link else s.link.offer .doorChange d (.door d y.code y.cycles)) ∧
    t.handed = s.handed ++
      (if x.implausible = true ∧ y.implausible = false then [.faultInactive (faultCode .door d .implausible)] else []) ++
      (if x.stuck = true ∧ y.stuck = false then [.faultInactive (faultCode .door d .stuck)] else [])

/-- What follows a derivation, in one event: signal 44 counts the fitted doors not SECURED, the secured run starts
when the last of them is SECURED (at once complete with no delay) and stops when one is not, the interlock is decided,
and a fitted door derived OPEN clears the stop request (R136, R145, R150). A change of the command writes signal 46 as
R147 says, reaches the INTERLOCK outputs and offers DOOR_CHANGE; a cleared request writes signal 47, reaches the
STOP_SIGN outputs, withdraws the latch's chime and offers STOP_REQUEST_CHANGE. A cycle's commit is served in the
event. DOOR_INPUT_WRITE is such a derivation, for a door not fitted too by the model's choice (log 58). That the run
starts at any derivation that finds it stopped and every fitted door SECURED is the model's reading (log 22, DEDUCED).
The implausibility time of 300 ms, or the travel limit, run out: the mark is set, the fault reported, IMPLAUSIBLE set
on the door's signal (and on the records of CLOSED and OPEN), and the door derives (R137, R138). Before the time
nothing but the clock moves. A confirmed wiring fault of an input sets IMPLAUSIBLE on the door's signal (R139), also
on that of a door not fitted by the model's choice (log 56). The 100 ms refresh rewrites signals 40 to 47 from the
present state, 46 as failed while the interlock fault stands (R136, R147). The derivation after an expiry may start
the implausibility time again (log 21, DEDUCED). -/
def Obligations.DerivationsAreFollowed : Prop :=
  (∀ (s : State) (d : Fin 4), s.active = true →
     let tells (i n : Nat) (q : Quality) (t : State) : Prop := (s.sig i).forced = false → (t.sig i).quality = q ∧
       ((s.sig i).cfg.rangeMin ≤ (n : Int) → (n : Int) ≤ (s.sig i).cfg.rangeMax → (t.sig i).value = n)
     ∃ t, exec (.doorInputWrite d) s = .next t ∧ t = derive d (s.setHanded (s.handed.erase (.doorInput d))) ∧
       s.keepsAllBut [.doors, .signals, .outputs, .link, .power, .handed] t ∧
       (let u := deriveDoor d (s.setHanded (s.handed.erase (.doorInput d)))
        t.doors.doors = u.doors.doors ∧ t.doors.policy = s.doors.policy ∧ t.doors.permission = s.doors.permission ∧
        (∀ i, i < 64 → i ≠ 44 → i ≠ 46 → i ≠ 47 → t.sig i = u.sig i)) ∧
       s.queues (if (t.door d).code = 0 ∧ (s.door d).opened = true ∧
         (16 ≤ (s.door d).sinceCommit + 1 ∨ s.link.resetPending = true) then [.doorCounts] else []) t ∧
       (let count := ((List.range 4).filter fun j => (t.door j).cfg.fitted && (t.door j).code != 0).length
        let r := s.sig 44
        r.forced = false → r.cfg.rangeMin ≤ 0 → 4 ≤ r.cfg.rangeMax →
          (t.sig 44).value = count ∧ (t.sig 44).quality = .valid ∧ (t.sig 44).age = 0) ∧
       (let secured : Prop := ∀ j, j < 4 → (t.door j).cfg.fitted = true → (t.door j).code = 0
        (¬secured → t.doors.run = .stopped) ∧
        (secured → s.doors.run ≠ .stopped → t.doors.run = s.doors.run) ∧
        (secured → s.doors.run = .stopped →
          t.doors.run = if s.doors.policy.delay ≤ 0 then .complete else .running s.clock)) ∧
       t.doors.overrideRead = s.roleActive .override ∧
       t.doors.interlock = (s.power.mode == .run && !s.roleActive .override && t.doors.run != .complete) ∧
       t.doors.stop = (if (t.door d).code = 3 then .none else s.doors.stop) ∧ s.keepsLinkButReports t ∧
       t.doors = { s.doors with
         doors := t.doors.doors, run := t.doors.run, overrideRead := t.doors.overrideRead,
         interlock := t.doors.interlock, stop := t.doors.stop } ∧
       (t.doors.interlock = s.doors.interlock → t.sig 46 = s.sig 46) ∧
       (t.doors.interlock ≠ s.doors.interlock →
         tells 46 t.doors.interlock.toNat (if s.doors.interlockFault then .failed else .valid) t ∧
         s.offers ⟨.doorChange, 4, .doorShared s.doors.permission t.doors.interlock s.doors.interlockFault⟩ t) ∧
       (t.doors.stop = s.doors.stop → t.sig 47 = s.sig 47) ∧
       (t.doors.stop ≠ s.doors.stop → tells 47 0 .valid t ∧ .chimeWithdraw .stopLatch ∈ t.handed ∧
         s.offers ⟨.stopRequestChange, 0, .stopRequest .none⟩ t) ∧
       (t.doors.interlock = s.doors.interlock → t.doors.stop = s.doors.stop → t.outputs = s.outputs) ∧
       (t.doors.interlock ≠ s.doors.interlock ∨ t.doors.stop ≠ s.doors.stop →
         ∀ o, o < 16 → (t.out o).request = t.ownerRequest (t.out o).owner)) ∧
  (∀ (s : State) (d : Fin 4) (t0 : Nat),
     let x := s.door d
     let time := max s.clock t0
     let now := s.setClock time
     let marked (i : Nat) (u : State) : State := putRec i
       (if (u.sig i).forced then u.sig i else { u.sig i with flags := { (u.sig i).flags with implausible := true } }) false u
     let input (k : Option Nat) (u : State) : State := match k with
       | some k => marked (16 + k) u
       | none => u
     (s.active = false ∨ (∀ start, x.implausTimer = some start → time - start < 300000) →
       exec (.doorImplausibilityExpiry d t0) s = .next now) ∧
     (∀ start, s.active = true → x.implausTimer = some start → 300000 ≤ time - start →
       exec (.doorImplausibilityExpiry d t0) s = .next (derive d (input x.cfg.openSw (input x.cfg.closed
         (marked (40 + d) (hand (.faultActive (faultCode .door d .implausible))
           (putDoor d { x with implausible := true, implausTimer := none } now))))))) ∧
     (s.active = false ∨ (∀ start, x.travel = some start → time - start < x.cfg.travel * 1000000) →
       exec (.doorTravelExpiry d t0) s = .next now) ∧
     (∀ start, s.active = true → x.travel = some start → x.cfg.travel * 1000000 ≤ time - start →
       exec (.doorTravelExpiry d t0) s = .next (derive d (marked (40 + d)
         (hand (.faultActive (faultCode .door d .stuck)) (putDoor d { x with stuck := true, travel := none } now))))) ∧
     (s.active = true → exec (.doorWiringFault d) s =
       .next (marked (40 + d) (s.setHanded (s.handed.erase (.doorWiring d))))) ∧
     (s.active = false ∨ s.doors.refreshOn = false → exec .doorRefreshExpiry s = .next s) ∧
     (s.active = true → s.doors.refreshOn = true → ∃ t, exec .doorRefreshExpiry s = .next t ∧
       s.keepsAllBut [.signals, .link, .handed, .distance] t ∧ t.handed = s.handed ∧ t.distance = s.distance ∧
       (∀ i, i < 40 ∨ (48 ≤ i ∧ i < 64) → t.sig i = s.sig i) ∧
       (∀ i, 40 ≤ i → i < 48 → (s.sig i).forced = false →
         (t.sig i).quality = (if i = 46 ∧ s.doors.interlockFault = true then .failed else .valid) ∧
         let v : Int := if i < 44 then ((s.door (i - 40)).code : Int)
           else if i = 44 then (((List.range 4).filter fun j => (s.door j).cfg.fitted && (s.door j).code != 0).length : Int)
           else if i = 45 then (if s.doors.permission then 1 else 0)
           else if i = 46 then (if s.doors.interlock then 1 else 0)
           else match s.doors.stop with | .none => 0 | .stop => 1 | .assist => 2
         (s.sig i).cfg.rangeMin ≤ v → v ≤ (s.sig i).cfg.rangeMax → (t.sig i).value = v)))

/-- Permission rests on a VALID record 12: granted up to the release speed, withdrawn above it and the hysteresis
together, kept between; else on the PARKING_BRAKE switch, VALID and active; a change goes to signal 45, the RELEASE
outputs and, as DOOR_CHANGE of subject 4, the host (R143, R144). The interlock is commanded applied in RUN unless the
override is VALID and active or the secured run is complete (R145, R146); its fault mark follows the INTERLOCK outputs
(R147); a change of either writes signal 46, fresh or as a failure with the mark set, with the command, and is offered
likewise, and one of the command reaches the INTERLOCK outputs. A secured run is complete when it has lasted the
release delay (R145). An offered report of an enabled kind is queued, or lost to a full queue (R173, R174). -/
def Obligations.PermissionAndInterlockAreDecided : Prop :=
  ∀ (s : State) (t0 : Nat),
    let r := s.sig 12
    let pol := s.doors.policy
    let wanted : Bool :=
      if r.quality = .valid then
        (if r.value ≤ pol.speed then true else if pol.speed + pol.hysteresis < r.value then false else s.doors.permission)
      else (List.range 24).any fun k => (List.range 24).find? (fun j => (s.switch j).cfg.role == .parkingBrake) == some k &&
        (s.sig (16 + k)).quality == .valid && (s.sig (16 + k)).value == 1
    let override := s.roleActive .override
    let applied (run : SecuredRun) : Bool := s.power.mode == .run && !override && run != .complete
    let told (t : State) : Prop :=
      s.offers ⟨.doorChange, 4, .doorShared t.doors.permission t.doors.interlock t.doors.interlockFault⟩ t
    let tells46 (t : State) : Prop := (s.sig 46).forced = false →
      (t.sig 46).quality = (if t.doors.interlockFault then .failed else .valid) ∧
      ((s.sig 46).cfg.rangeMin = 0 → (s.sig 46).cfg.rangeMax = 1 →
        (t.sig 46).value = if t.doors.interlock then 1 else 0)
    let faulty : Prop := ∃ o, o < 16 ∧ (s.out o).owner = .interlock ∧ ((s.out o).state = .shortWait ∨
      (s.out o).state = .openLoad ∨ (s.out o).state = .supplyShort ∨ (s.out o).state = .lockedOut)
    (s.active = true →
      (∃ t, exec .releaseRedecide s = .next t ∧ s.keepsAllBut [.doors, .signals, .outputs, .link, .handed] t ∧
        t.doors = { s.doors with
          permission := wanted, basis := if r.quality = .valid then .speed else .brake } ∧
        (∀ i, i < 64 → i ≠ 45 → t.sig i = s.sig i) ∧
        (wanted = s.doors.permission → t.sig 45 = s.sig 45 ∧ t.outputs = s.outputs ∧ t.link = s.link) ∧
        (wanted ≠ s.doors.permission → told t) ∧
        (wanted ≠ s.doors.permission → (s.sig 45).forced = false → (t.sig 45).quality = .valid ∧
          ((s.sig 45).cfg.rangeMin = 0 → (s.sig 45).cfg.rangeMax = 1 → (t.sig 45).value = if wanted then 1 else 0)) ∧
        (wanted ≠ s.doors.permission → ∀ o, o < 16 → (t.out o).request = t.ownerRequest (t.out o).owner)) ∧
      (∃ t, exec .overrideChange s = .next t ∧ s.keepsAllBut [.doors, .signals, .outputs, .link, .handed] t ∧
        t.doors = { s.doors with overrideRead := override, interlock := applied s.doors.run } ∧
        (∀ i, i < 64 → i ≠ 46 → t.sig i = s.sig i) ∧
        (applied s.doors.run = s.doors.interlock → t.link = s.link) ∧
        (applied s.doors.run ≠ s.doors.interlock → told t ∧
          (∀ o, o < 16 → (t.out o).request = t.ownerRequest (t.out o).owner) ∧ tells46 t) ∧
        (applied s.doors.run = s.doors.interlock → t.outputs = s.outputs ∧ t.sig 46 = s.sig 46))) ∧
    (s.active = true ∨ (s.powered = true ∧ Handoff.interlockOutput ∈ s.handed) →
      ∃ t, exec .interlockOutputChange s = .next t ∧ s.keepsAllBut [.doors, .signals, .link, .handed] t ∧
        (t.doors.interlockFault = true ↔ faulty) ∧
        t.doors = { s.doors with interlockFault := t.doors.interlockFault } ∧
        (t.doors.interlockFault = s.doors.interlockFault → t.signals = s.signals ∧ t.link = s.link) ∧
        (t.doors.interlockFault ≠ s.doors.interlockFault → told t) ∧
        (∀ i, i < 64 → i ≠ 46 → t.sig i = s.sig i) ∧ (s.active = false → t.signals = s.signals) ∧
        (t.doors.interlockFault ≠ s.doors.interlockFault → s.active = true → tells46 t)) ∧
    (let time := max s.clock t0
     let now := s.setClock time
     (s.active = false ∨ (∀ start, s.doors.run = .running start → time - start < pol.delay.toNat * 1000) →
       exec (.securedRunComplete t0) s = .next now) ∧
     (∀ start, s.active = true → s.doors.run = .running start → pol.delay.toNat * 1000 ≤ time - start →
       ∃ t, exec (.securedRunComplete t0) s = .next t ∧
         s.keepsAllBut [.doors, .signals, .outputs, .link, .handed, .clock] t ∧ t.clock = time ∧
         t.doors = { s.doors with run := .complete, overrideRead := override, interlock := false } ∧
         (∀ i, i < 64 → i ≠ 46 → t.sig i = s.sig i) ∧
         (s.doors.interlock = true → told t ∧ tells46 t ∧
           ∀ o, o < 16 → (t.out o).request = t.ownerRequest (t.out o).owner) ∧
         (s.doors.interlock = false → t.sig 46 = s.sig 46 ∧ t.outputs = s.outputs ∧ t.link = s.link)))

/-- An edge of a stop or assist button is ignored while a fitted door is not SECURED; else a stop edge raises NONE to
STOP, an assist edge NONE and STOP to ASSIST, with signal 47, the STOP_SIGN outputs, the latch's ONCE chime if it has
a pattern, and the report STOP_REQUEST_CHANGE, queued if its kind is enabled, or lost to a full queue (R149, R173).
STOP_REQUEST_CLEAR returns the record to NONE, with the report, and withdraws the chime (R150). DOOR_CONFIG for the
latch takes two patterns of 0 to 7 or none, else RANGE (R148). -/
def Obligations.StopRequestsAreLatched : Prop :=
  ∀ (s : State) (x : Slot),
    let secured : Prop := ∀ d, d < 4 → (s.door d).cfg.fitted = true → (s.door d).code = 0
    let raised (r : StopRecord) (base t : State) : Prop :=
      s.keepsAllBut [.doors, .signals, .outputs, .link, .handed] t ∧ t.doors = { s.doors with stop := r } ∧
      s.offers ⟨.stopRequestChange, 0, .stopRequest r⟩ t ∧
      (∀ i, i < 64 → i ≠ 47 → t.sig i = s.sig i) ∧
      ((s.sig 47).forced = false → (s.sig 47).cfg.rangeMin = 0 → (s.sig 47).cfg.rangeMax = 2 →
        (t.sig 47).value = (match r with | .none => 0 | .stop => 1 | .assist => 2) ∧ (t.sig 47).quality = .valid) ∧
      (∀ o, o < 16 → (t.out o).request = t.ownerRequest (t.out o).owner) ∧
      (t.handed.filter fun h => h != .interlockOutput) = (base.handed.filter fun h => h != .interlockOutput) ++
        match r with
        | .none => [.chimeWithdraw .stopLatch]
        | .stop => match s.doors.stopPattern with | some p => [.chimeRequest .stopLatch p .once] | none => []
        | .assist => match s.doors.assistPattern with | some p => [.chimeRequest .stopLatch p .once] | none => []
    (s.active = true →
      let taken (assist : Bool) : State := s.setHanded (s.handed.erase (.stopEdge assist))
      (¬secured → ∀ assist, exec (.stopRequestEdge assist) s = .next (taken assist)) ∧
      (secured →
        (s.doors.stop = .none → ∃ t, exec (.stopRequestEdge false) s = .next t ∧ raised .stop (taken false) t) ∧
        (s.doors.stop ≠ .none → exec (.stopRequestEdge false) s = .next (taken false)) ∧
        (s.doors.stop ≠ .assist → ∃ t, exec (.stopRequestEdge true) s = .next t ∧ raised .assist (taken true) t) ∧
        (s.doors.stop = .assist → exec (.stopRequestEdge true) s = .next (taken true)))) ∧
    (s.asks 0x62#8 x → x.body = [] →
      (s.doors.stop = .none → exec .stopRequestClear s = .next (s.replied x .ok)) ∧
      (s.doors.stop ≠ .none → ∃ t, exec .stopRequestClear s = .next (t.replied x .ok) ∧ raised .none s t)) ∧
    (s.asks 0x60#8 x → ∀ stop assist,
      let known (p : Option Nat) : Prop := ∀ n, p = some n → n ≤ 7
      (¬(known stop ∧ known assist) → exec (.doorConfigStopLatch .good stop assist) s = .next (s.replied x .range)) ∧
      (known stop → known assist → exec (.doorConfigStopLatch .good stop assist) s =
        .next ((s.setDoors { s.doors with stopPattern := stop, assistPattern := assist }).replied x .ok)))

/-- DOOR_CONFIG refuses with RANGE a target above 4, an input above 23, a fitted door without CLOSED, a switch named
twice, one of another door, and one that holds a role; the travel limit is clamped to 1 … 20 s with ADJUSTED, and
forces on the switches named are lifted (R14, R133). In RUN and AFTERRUN its timers stop, its stuck, implausible and
opened marks clear with their faults, its counts stay, and the door derives from that, its code going to its signal,
signal 44, the secured run, the interlock and, from OPEN, the stop request (R134 to R136; a run starting at any such
derivation is log 22, DEDUCED). The reply shows the door after it. DOOR_POLICY clamps and, in RUN and AFTERRUN, judges
permission, on the parking brake while record 12 is not VALID, and a running secured run afresh (R142 to R144). What
changes by either request goes to signals 45 to 47, the outputs and, as DOOR_CHANGE and STOP_REQUEST_CHANGE, the host
(R144, R145, R147, R150). DOOR_READ shows and changes nothing (R151). -/
def Obligations.DoorRequestsAreTaken : Prop :=
  ∀ (s : State) (x : Slot),
    let ms (t0 : Nat) := (s.clock - t0) / 1000
    let entry (z : Door) : DoorEntry := ⟨z.cfg, z.code, z.stuck, z.implausible, z.opened, z.travel.map ms,
      z.implausTimer.map ms, z.cycles, z.sinceCommit⟩
    let tells (i n : Nat) (q : Quality) (t : State) : Prop := (s.sig i).forced = false → (t.sig i).quality = q ∧
      ((s.sig i).cfg.rangeMin ≤ (n : Int) → (n : Int) ≤ (s.sig i).cfg.rangeMax → (t.sig i).value = n)
    let shared (t : State) : Prop :=
      s.offers ⟨.doorChange, 4, .doorShared t.doors.permission t.doors.interlock s.doors.interlockFault⟩ t
    let commandTold (t : State) : Prop :=
      (t.doors.interlock = s.doors.interlock → t.sig 46 = s.sig 46) ∧
      (t.doors.interlock ≠ s.doors.interlock →
        tells 46 t.doors.interlock.toNat (if s.doors.interlockFault then .failed else .valid) t ∧ shared t)
    let requested (t : State) : Prop := ∀ o, o < 16 → (t.out o).request = t.ownerRequest (t.out o).owner
    (s.asks 0x60#8 x → ∀ d (c : DoorCfg),
      let named := [c.closed, c.locked, c.openSw, c.edge, c.emergency].filterMap id
      let good : Prop := d ≤ 3 ∧ (∀ k ∈ named, k ≤ 23) ∧ (c.fitted = true → c.closed ≠ none) ∧ named.Nodup ∧
        (∀ k ∈ named, ∀ j, j < 4 → j ≠ d → doorAssigns (s.door j).cfg k = false) ∧
        (∀ k ∈ named, (s.switch k).cfg.role = .none)
      let c1 : DoorCfg := { c with travel := max 1 (min 20 c.travel) }
      let y := s.door d
      (¬good → exec (.doorConfig .good d c) s = .next (s.replied x .range)) ∧
      (good → ∃ t : State,
        exec (.doorConfig .good d c) s = .next (t.replied x (okOr (c1 != c)) (.door (entry (t.door d)))) ∧
        s.keepsAllBut [.doors, .signals, .outputs, .link, .power, .handed] t ∧
        (∀ j, j < 4 → j ≠ d → t.door j = s.door j) ∧ t.doors.policy = s.doors.policy ∧
        t.doors.permission = s.doors.permission ∧
        (∀ k ∈ named, (t.sig (16 + k)).forced = false ∧
          ((s.sig (16 + k)).forced = true → (t.sig (16 + k)).quality = .failed) ∧
          ((s.sig (16 + k)).forced = false → t.sig (16 + k) = s.sig (16 + k))) ∧
        (s.active = false → t.door d = { y with cfg := c1 } ∧
          s.keepsAllBut [.doors, .signals, .link, .handed] t) ∧
        (s.active = true →
          let cleared : Door := { y with
            cfg := c1, travel := none, implausTimer := none, stuck := false, implausible := false, opened := false }
          let secured : Prop := ∀ j, j < 4 → (t.door j).cfg.fitted = true → (t.door j).code = 0
          let count := ((List.range 4).filter fun j => (t.door j).cfg.fitted && (t.door j).code != 0).length
          t.door d = (deriveDoor d (liftDoorForces c1 (putDoor d cleared s))).door d ∧ (t.door d).cfg = c1 ∧
          (t.door d).cycles = y.cycles ∧ (t.door d).sinceCommit = y.sinceCommit ∧
          (t.door d).stuck = false ∧ (t.door d).implausible = false ∧
          ((t.door d).opened = true ↔ (t.door d).code = 3) ∧
          ((t.door d).travel = none ∨ (t.door d).travel = some s.clock) ∧
          ((t.door d).implausTimer = none ∨ (t.door d).implausTimer = some s.clock) ∧
          (y.implausible = true → .faultInactive (faultCode .door d .implausible) ∈ t.handed) ∧
          (y.stuck = true → .faultInactive (faultCode .door d .stuck) ∈ t.handed) ∧
          (let r := s.sig (40 + d)
           let v : Int := (t.door d).code
           r.forced = false → r.cfg.rangeMin ≤ v → v ≤ r.cfg.rangeMax →
             (t.sig (40 + d)).value = v ∧ (t.sig (40 + d)).quality = .valid ∧ (t.sig (40 + d)).age = 0) ∧
          ((s.sig 44).forced = false → (s.sig 44).cfg.rangeMin ≤ 0 → 4 ≤ (s.sig 44).cfg.rangeMax →
            (t.sig 44).value = count ∧ (t.sig 44).quality = .valid ∧ (t.sig 44).age = 0) ∧
          (¬secured → t.doors.run = .stopped) ∧
          (secured → s.doors.run ≠ .stopped → t.doors.run = s.doors.run) ∧
          (secured → s.doors.run = .stopped →
            t.doors.run = if s.doors.policy.delay ≤ 0 then .complete else .running s.clock) ∧
          t.doors.overrideRead = s.roleActive .override ∧
          t.doors.interlock = (s.power.mode == .run && !s.roleActive .override && t.doors.run != .complete) ∧
          t.doors.stop = (if (t.door d).code = 3 then .none else s.doors.stop) ∧
          t.doors = { s.doors with
            doors := t.doors.doors, run := t.doors.run, overrideRead := t.doors.overrideRead,
            interlock := t.doors.interlock, stop := t.doors.stop } ∧
          s.queues [] t ∧
          (∀ i, i < 64 → (∀ k ∈ named, i ≠ 16 + k) → i ≠ 40 + d → i ≠ 44 → i ≠ 46 → i ≠ 47 → t.sig i = s.sig i) ∧
          commandTold t ∧
          (t.doors.stop = s.doors.stop → t.sig 47 = s.sig 47) ∧
          (t.doors.stop ≠ s.doors.stop → tells 47 0 .valid t ∧ .chimeWithdraw .stopLatch ∈ t.handed ∧
            s.offers ⟨.stopRequestChange, 0, .stopRequest .none⟩ t) ∧
          (t.doors.interlock = s.doors.interlock → t.doors.stop = s.doors.stop → t.outputs = s.outputs) ∧
          (t.doors.interlock ≠ s.doors.interlock ∨ t.doors.stop ≠ s.doors.stop → requested t)))) ∧
    (s.asks 0x63#8 x → ∀ p : DoorPolicy,
      let p1 : DoorPolicy := ⟨max 50 (min 1000 p.speed), max 10 (min 500 p.hysteresis), max 0 (min 5000 p.delay)⟩
      let r := s.sig 12
      let wanted : Bool :=
        if r.quality = .valid then
          (if r.value ≤ p1.speed then true else if p1.speed + p1.hysteresis < r.value then false else s.doors.permission)
        else (List.range 24).any fun k => (List.range 24).find? (fun j => (s.switch j).cfg.role == .parkingBrake) == some k &&
          (s.sig (16 + k)).quality == .valid && (s.sig (16 + k)).value == 1
      ∃ t : State, exec (.doorPolicy .good p) s = .next (t.replied x (okOr (p1 != p)) (.policy p1)) ∧
        s.keepsAllBut [.doors, .signals, .outputs, .link, .handed] t ∧
        t.doors.policy = p1 ∧ t.doors.doors = s.doors.doors ∧ t.doors.stop = s.doors.stop ∧
        (s.active = false → t.doors = { s.doors with policy := p1 }) ∧
        (s.active = false → s.keepsAllBut [.doors] t) ∧
        (s.active = true →
          t.doors = { s.doors with
            policy := p1, permission := wanted, basis := (if r.quality = .valid then .speed else .brake),
            overrideRead := s.roleActive .override, run := t.doors.run, interlock := t.doors.interlock } ∧
          (∀ i, i < 64 → i ≠ 45 → i ≠ 46 → t.sig i = s.sig i) ∧
          (wanted = s.doors.permission → t.sig 45 = s.sig 45) ∧
          (wanted ≠ s.doors.permission → tells 45 wanted.toNat .valid t ∧ shared t) ∧ commandTold t ∧
          (wanted = s.doors.permission → t.doors.interlock = s.doors.interlock →
            t.outputs = s.outputs ∧ t.link = s.link ∧ t.handed = s.handed) ∧
          (wanted ≠ s.doors.permission ∨ t.doors.interlock ≠ s.doors.interlock → requested t)) ∧
        (s.active = true → ∀ start, s.doors.run = .running start →
          t.doors.run = if p1.delay.toNat * 1000 ≤ s.clock - start then .complete else .running start) ∧
        (s.active = true → (∀ start, s.doors.run ≠ .running start) → t.doors.run = s.doors.run) ∧
        (s.active = true → t.doors.interlock =
          (s.power.mode == .run && !s.roleActive .override && t.doors.run != .complete))) ∧
    (s.asks 0x61#8 x → x.body = [] →
      exec .doorRead s = .next (s.replied x .ok (.doors ([0, 1, 2, 3].map fun d => entry (s.door d))
        ⟨s.doors.policy, s.doors.permission, s.doors.basis, s.doors.interlock,
          (match s.doors.run with | .stopped => .stopped | .running t0 => .running (ms t0) | .complete => .complete),
          s.doors.overrideRead, s.doors.interlockFault, s.doors.stop, s.doors.stopPattern, s.doors.assistPattern,
          s.committing .doorCounts⟩)))

/-- A fault code is 4096 × class + 16 × index + symptom with the numbers of the tables of 9.1; it is defined when its
class, its index and its symptom stand in one row of the class table; FAULT_CLEAR refuses any other (R154), in the
service mode with RANGE. -/
def Obligations.FaultCodesFollowTheTables : Prop :=
  let symptom (y : Symptom) : Nat := match y with
    | .opened => 1 | .shorted => 2 | .supplyShort => 3 | .lockedOut => 4 | .implausible => 5 | .stuck => 6
    | .coilOpen => 7 | .underVoltage => 8 | .configLost => 9 | .countersLost => 10 | .event => 11
  let number (c : FaultClass) : Nat := match c with
    | .sender => 1 | .switch => 2 | .pulse => 3 | .output => 4 | .gauge => 5 | .door => 6 | .tone => 7 | .supply => 8
    | .store => 9 | .warning => 10
  let listed (c : FaultClass) (i : Nat) (y : Symptom) : Prop := match c with
    | .sender => i ≤ 11 ∧ (y = .opened ∨ y = .shorted)
    | .switch => i ≤ 23 ∧ (y = .opened ∨ y = .shorted)
    | .pulse => i ≤ 3 ∧ (y = .opened ∨ y = .shorted)
    | .output => i ≤ 15 ∧ (y = .shorted ∨ y = .opened ∨ y = .supplyShort ∨ y = .lockedOut)
    | .gauge => i ≤ 5 ∧ y = .coilOpen
    | .door => i ≤ 3 ∧ (y = .implausible ∨ y = .stuck)
    | .tone => i = 0 ∧ (y = .opened ∨ y = .shorted)
    | .supply => i = 0 ∧ y = .underVoltage
    | .store => (i = 0 ∧ y = .configLost) ∨ ((i = 1 ∨ i = 2) ∧ y = .countersLost)
    | .warning => i ≤ 31 ∧ y = .event
  (∀ c i y, faultCode c i y = 4096 * number c + 16 * i + symptom y) ∧
  (∀ code, definedCode code = true ↔ ∃ c i y, listed c i y ∧ code = faultCode c i y) ∧
  ∀ (s : State) (x : Slot) code, s.asks 0x72#8 x → (∀ c i y, listed c i y → code ≠ faultCode c i y) →
    (s.faults.service = true → exec (.faultClear .good (.code code)) s = .next (s.replied x .range)) ∧
      (exec (.faultClear .good (.code code)) s = .next (s.replied x .range) ∨
        exec (.faultClear .good (.code code)) s = .next (s.replied x .conditions))

/-- An active report makes a PASSIVE record ACTIVE with one occurrence more, a new last stamp and healing 0, and
changes nothing on an ACTIVE one (R155). Without a record it creates one at the end of the creation order, with the
counter's number and a freeze frame under the list, while fewer than 24 stand (R156, R158); else the PASSIVE record
with the most healing, then the fewest occurrences, then the lowest number gives way, and with every record ACTIVE, or
the counter exhausted, the report is not stored and MEMORY_FULL is set (R157). An inactive report makes an ACTIVE
record PASSIVE and changes nothing else (R155). Each change is offered as FAULT_CHANGE and queues the item (R159).
Reports are taken in every power mode; the premise on the records is `FaultRecordsLaw`. -/
def Obligations.FaultReportsMakeRecords : Prop :=
  ∀ (s : State) (code : Nat), FaultRecordsLaw s.faults.records →
    let f := s.faults
    let xs := f.records
    let total := digitsVal s.distance.record.total
    let hours := digitsVal s.distance.record.hours
    let offered (r : FaultRec) (st : FaultStatus) (l : Link) : Link :=
      l.offer .faultChange r.code (.fault r.code st r.occurrences r.healing r.seq)
    let changed (h : Handoff) (records : List FaultRec) (t : State) : Prop :=
      s.keepsAllBut [.faults, .link, .power, .handed] t ∧ t.handed = s.handed.erase h ∧ s.queues [.faults] t ∧
      t.faults.records = records ∧ t.faults.cursor = f.cursor ∧ t.faults.freezeList = f.freezeList ∧
      t.faults.healLimit = f.healLimit ∧ t.faults.service = f.service ∧ t.faults.refreshOn = f.refreshOn
    let new : FaultRec := ⟨code, true, 1, f.counter, total, hours, total, hours, s.power.cycles, 0,
      if f.freezeList = [] then none else some (f.freezeList.map fun n => ⟨n, (s.sig n).value, (s.sig n).quality⟩)⟩
    let exhausted : Prop := f.counter = 4294967295 ∧ ∃ r ∈ xs, r.seq = 4294967295
    let absent : Prop := ∀ r ∈ xs, r.code ≠ code
    let created (base : List FaultRec) (l : Link) (t : State) : Prop :=
      changed (.faultActive code) (base ++ [new]) t ∧ t.link = offered new .active l ∧ t.faults.full = f.full ∧
      t.faults.counter = if f.counter < 4294967295 then f.counter + 1 else f.counter
    let idle (h : Handoff) : State := serve (s.setHanded (s.handed.erase h))
    (s.powered = false → exec (.faultReportActive code) s = .next s ∧ exec (.faultReportInactive code) s = .next s) ∧
    (s.powered = true →
      (∀ r ∈ xs, r.code = code → r.active = true →
        exec (.faultReportActive code) s = .next (idle (.faultActive code)) ∧
        ∃ t, exec (.faultReportInactive code) s = .next t ∧
          let r1 := { r with active := false }
          changed (.faultInactive code) (xs.map fun q => if q.code = code then r1 else q) t ∧
          t.faults.full = f.full ∧ t.faults.counter = f.counter ∧ t.link = offered r1 .passive s.link) ∧
      (∀ r ∈ xs, r.code = code → r.active = false →
        exec (.faultReportInactive code) s = .next (idle (.faultInactive code)) ∧
        ∃ t, exec (.faultReportActive code) s = .next t ∧
          let r1 := { r with
            active := true, occurrences := if r.occurrences < 255 then r.occurrences + 1 else r.occurrences,
            healing := 0, lastTotal := total, lastHours := hours }
          changed (.faultActive code) (xs.map fun q => if q.code = code then r1 else q) t ∧
          t.faults.full = f.full ∧ t.faults.counter = f.counter ∧ t.link = offered r1 .active s.link) ∧
      (absent →
        exec (.faultReportInactive code) s = .next (idle (.faultInactive code)) ∧
        (¬exhausted → xs.length < 24 → ∃ t, exec (.faultReportActive code) s = .next t ∧ created xs s.link t) ∧
        (¬exhausted → xs.length = 24 → ∀ r ∈ xs, r.active = false →
          (∀ q ∈ xs, q.active = false → q ≠ r → q.healing < r.healing ∨ (q.healing = r.healing ∧
            (r.occurrences < q.occurrences ∨ (r.occurrences = q.occurrences ∧ r.seq < q.seq)))) →
          ∃ t, exec (.faultReportActive code) s = .next t ∧
            created (xs.filter fun q => decide (q.code ≠ r.code)) (offered r .erased s.link) t) ∧
        (exhausted ∨ (xs.length = 24 ∧ ∀ r ∈ xs, r.active = true) → ∃ t, exec (.faultReportActive code) s = .next t ∧
          changed (.faultActive code) xs t ∧ t.faults.full = true ∧ t.faults.counter = f.counter ∧
          t.link = s.link.offer .faultChange code (.fault code .notStored 0 0 0))))

/-- FAULT_REWIND sets the cursor to 0; FAULT_NEXT returns the record with the smallest number above the cursor, which
it takes on, or the end mark, with the records held and MEMORY_FULL (R161). FREEZE_LIST_SET takes up to four numbers
up to 63 (R158), FAULT_CONFIG a healing limit of 1 at least (R160). FAULT_CLEAR needs the service mode; it erases the
PASSIVE records in its scope, restarts the ACTIVE ones with a new frame, each with its FAULT_CHANGE (R159), clears
MEMORY_FULL, and with ALL an emptied memory numbers and reads afresh (R162, R163). That these reports enter the queue
in the order of the records is the model's choice (log 34), and so is RANGE for an undefined code outside the service
mode (log 14). The premise is `FaultRecordsLaw`. -/
def Obligations.FaultsAreReadAndCleared : Prop :=
  ∀ (s : State) (x : Slot), FaultRecordsLaw s.faults.records →
    let f := s.faults
    let xs := f.records
    let counts : List Byte := [BitVec.ofNat 8 xs.length, if f.full then 1#8 else 0#8]
    (s.asks 0x71#8 x → x.body = [] → exec .faultRewind s =
      .next ((s.setFaults { f with cursor := 0 }).replied x .ok (.faultCount xs.length f.full))) ∧
    (s.asks 0x70#8 x → x.body = [] →
      ((∀ r ∈ xs, r.seq ≤ f.cursor) → exec .faultNext s = .next (s.replied x .ok (.bytes (0#8 :: counts)))) ∧
      ∀ r ∈ xs, f.cursor < r.seq → (∀ q ∈ xs, q ≠ r → f.cursor < q.seq → r.seq < q.seq) → exec .faultNext s =
        .next ((s.setFaults { f with cursor := r.seq }).replied x .ok (.bytes (1#8 :: counts ++ r.bytes)))) ∧
    (s.asks 0x73#8 x → ∀ ns : List Nat,
      (4 < ns.length → exec (.freezeListSet .good ns) s = .next (s.replied x .badLength)) ∧
      (ns.length ≤ 4 → (∃ n ∈ ns, 63 < n) → exec (.freezeListSet .good ns) s = .next (s.replied x .range)) ∧
      (ns.length ≤ 4 → (∀ n ∈ ns, n ≤ 63) → exec (.freezeListSet .good ns) s =
        .next ((s.setFaults { f with freezeList := ns }).replied x .ok (.freezeList ns)))) ∧
    (s.asks 0x74#8 x → ∀ n, exec (.faultConfig .good n) s =
      .next ((s.setFaults { f with healLimit := max 1 n }).replied x (okOr (decide (n = 0))))) ∧
    (s.asks 0x72#8 x → ∀ code, definedCode code = false →
      exec (.faultClear .good (.code code)) s = .next (s.replied x .range)) ∧
    (s.asks 0x72#8 x → ∀ sc : ClearScope, (∀ c, sc = .code c → definedCode c = true) →
      let acts (r : FaultRec) : Bool := match sc with
        | .all => true
        | .code c => r.code == c
      let total := digitsVal s.distance.record.total
      let hours := digitsVal s.distance.record.hours
      let restarted (r : FaultRec) : FaultRec := ⟨r.code, true, 1, r.seq, total, hours, total, hours, s.power.cycles, 0,
        if f.freezeList = [] then none else some (f.freezeList.map fun n => ⟨n, (s.sig n).value, (s.sig n).quality⟩)⟩
      let left := xs.filterMap fun r =>
        if !acts r then some r else if r.active then some (restarted r) else none
      let anew : Prop := sc = .all ∧ left = []
      (f.service = false → exec (.faultClear .good sc) s = .next (s.replied x .conditions)) ∧
      (f.service = true → ∃ t : State, exec (.faultClear .good sc) s = .next (t.replied x .ok
          (.cleared (xs.filter fun r => acts r && !r.active).length (xs.filter fun r => acts r && r.active).length)) ∧
        s.keepsAllBut [.faults, .link, .power] t ∧
        t.link = (xs.filter acts).foldl (fun l r => if r.active
          then l.offer .faultChange r.code (.fault r.code .active 1 0 r.seq)
          else l.offer .faultChange r.code (.fault r.code .erased r.occurrences r.healing r.seq)) s.link ∧
        t.faults.records = left ∧ t.faults.full = false ∧ t.faults.freezeList = f.freezeList ∧
        t.faults.healLimit = f.healLimit ∧ t.faults.service = true ∧
        (anew → t.faults.counter = 1 ∧ t.faults.cursor = 0) ∧
        (¬anew → t.faults.counter = f.counter ∧ t.faults.cursor = f.cursor) ∧
        s.queues (if f.full = true ∨ (∃ r ∈ xs, acts r = true) ∨ (anew ∧ f.counter ≠ 1) then [.faults] else []) t))

/-- SERVICE_ENTER is taken in RUN with record 12 VALID at 0.50 km/h at most and the parking brake VALID and applied,
else CONDITIONS; SERVICE_EXIT is OK in every mode (R165, R166). A P0 evaluation that wrote more than 3.00 km/h VALID,
and a change that leaves the brake released or not VALID, end the mode; that a moved PARKING_BRAKE role and AFTERRUN
entry end it stands in InputConfigsTakeEffect and AfterrunEntersReturnsAndEnds. At each change signal 51 is written,
SERVICE_CHANGE offered and the change handed to outputs and gauges; an end lifts every signal force (R14, R167). The
refresh writes signal 51 again. That SERVICE_ENTER with the mode on and a condition failing answers CONDITIONS is the
model's choice (log 44). The premise holds in every run: record 51 is never forced and its range is fixed (R13, R15). -/
def Obligations.ServiceModeIsGuarded : Prop :=
  ∀ (s : State) (x : Slot),
    (s.sig 51).forced = false → (s.sig 51).cfg.rangeMin = 0 → (s.sig 51).cfg.rangeMax = 1 →
    let braked : Bool := (List.range 24).any fun k =>
      (List.range 24).find? (fun j => (s.switch j).cfg.role == .parkingBrake) == some k &&
        (s.sig (16 + k)).quality == .valid && (s.sig (16 + k)).value == 1
    let allowed : Prop := s.power.mode = .run ∧ (s.sig 12).quality = .valid ∧ (s.sig 12).value ≤ 50 ∧ braked = true
    let changed (base : State) (on : Bool) (t : State) : Prop :=
      t.faults = { s.faults with service := on } ∧ t.link = s.link.offer .serviceChange 0 (.service on) ∧
      (t.sig 51).quality = .valid ∧ (t.sig 51).value = (if on then 1 else 0) ∧ (t.sig 51).age = 0 ∧
      (on = true → s.keepsAllBut [.faults, .signals, .link, .handed] t ∧ (∀ i, i < 64 → i ≠ 51 → t.sig i = s.sig i) ∧
        t.handed = base.handed ++ [.outputService true, .gaugeService true]) ∧
      (on = false → s.keepsAllBut [.faults, .signals, .link, .handed, .distance] t ∧
        (∀ i, i < 64 → i ≠ 51 → t.sig i = if (s.sig i).forced
          then { s.sig i with forced := false, quality := .failed } else s.sig i) ∧
        ∃ more, t.handed = base.handed ++ [.outputService false, .gaugeService false] ++ more)
    (s.asks 0x78#8 x → x.body = [] →
      (¬allowed → exec .serviceEnter s = .next (s.replied x .conditions)) ∧
      (allowed → s.faults.service = true → exec .serviceEnter s = .next (s.replied x .ok)) ∧
      (allowed → s.faults.service = false → ∃ t : State, exec .serviceEnter s = .next (t.replied x .ok) ∧
        changed s true t)) ∧
    (s.asks 0x79#8 x → x.body = [] →
      (s.faults.service = false → exec .serviceExit s = .next (s.replied x .ok)) ∧
      (s.faults.service = true → ∃ t : State, exec .serviceExit s = .next (t.replied x .ok) ∧ changed s false t)) ∧
    (∀ v q, s.active = true ∨ (s.powered = true ∧ Handoff.speedCheck v q ∈ s.handed) →
      let taken := s.setHanded (s.handed.erase (.speedCheck v q))
      (s.faults.service = false ∨ q ≠ .valid ∨ v ≤ 300 → exec (.serviceSpeedCheck v q) s = .next taken) ∧
      (s.faults.service = true → q = .valid → 300 < v → ∃ t, exec (.serviceSpeedCheck v q) s = .next t ∧
        changed taken false t)) ∧
    (∀ on, s.active = true ∨ (s.powered = true ∧ Handoff.brakeChange on ∈ s.handed) →
      let taken := s.setHanded (s.handed.erase (.brakeChange on))
      (s.faults.service = false ∨ on = true → exec (.serviceBrakeChange on) s = .next taken) ∧
      (s.faults.service = true → on = false → ∃ t, exec (.serviceBrakeChange on) s = .next t ∧
        changed taken false t)) ∧
    (s.active = true → s.faults.refreshOn = true →
      exec .serviceSignalRefresh s = .next (writeFresh 51 (if s.faults.service then 1 else 0) s)) ∧
    (s.active = false ∨ s.faults.refreshOn = false → exec .serviceSignalRefresh s = .next s)

/-- Every signal record's value lies within its range, whatever its quality and after every reset: each step keeps it
(R7, R8). -/
def Obligations.SignalsStayInRange : Prop :=
  ∀ s t : State, SignalRangeLaw s → step s = .next t → SignalRangeLaw t

/-- The report queue holds at most 16 entries and no two of one kind and subject (R173), the commit list each item at
most once (R183), and the request buffer keeps its shape: four slots, one in hand, one reply for every answered slot,
a deferred one only while its CONFIG_SAVE waits (R170, R171): each step keeps them. -/
def Obligations.QueuesKeepTheirShape : Prop :=
  ∀ s t : State, step s = .next t → (ReportQueueLaw s → ReportQueueLaw t) ∧ (CommitListLaw s → CommitListLaw t) ∧
    (RequestBufferLaw s → RequestBufferLaw t)

/-- The fault memory holds at most 24 records, no two with the same code, and so do the item in the store and a write
of it in flight: each step keeps it (R157). -/
def Obligations.FaultMemoryStaysWithinBounds : Prop :=
  ∀ s t : State, FaultMemoryLaw s → step s = .next t → FaultMemoryLaw t

/-- The interlock is commanded applied in RUN unless the override stands or the secured run is complete, and the run
starts only while every fitted door stands SECURED; so in RUN, with a door not SECURED and no override, it is applied.
Each step keeps it (R145, R146, R153), and each step keeps every input a door names, in force, stored or being stored,
among the switches K0 to K23 (R133). That the command stands released at power-on (log 6), and that a complete run is
stopped at SLEEP entry (log 51), is the model's choice. -/
def Obligations.InterlockFollowsTheDoors : Prop :=
  (∀ s t : State, step s = .next t → (InterlockLaw s → InterlockLaw t) ∧ (DoorInputLaw s → DoorInputLaw t)) ∧
  ∀ s : State, InterlockLaw s → s.power.mode = .run → s.doors.overrideRead = false →
    (∃ d, d < 4 ∧ (s.door d).cfg.fitted = true ∧ (s.door d).code ≠ 0) → s.doors.interlock = true

/-- No stop or assist request is on record while a fitted door is OPEN, nor outside RUN and AFTERRUN: each step keeps
it (R149, R150, R153). -/
def Obligations.NoStopRequestWithAnOpenDoor : Prop :=
  ∀ s t : State, StopLatchLaw s → step s = .next t → StopLatchLaw t

/-- No output carries a force outside the service mode as the drivers last took it, and none owned by INTERLOCK is
forced off: each step keeps it (R60, R167). -/
def Obligations.OutputForcesEndWithTheServiceMode : Prop :=
  ∀ s t : State, OutputForceLaw s → step s = .next t → OutputForceLaw t

/-- Every pointer stays within 0 … Pmax with room left to stop there, and at rest wherever its state has no motion:
each step keeps it (R77, R81, R82). That a tracked target lies within the scale also after a change of Pmax is the
model's reading (log 15, DEDUCED). -/
def Obligations.PointersStayWithinTheScale : Prop :=
  ∀ s t : State, GaugeScaleLaw s → step s = .next t → GaugeScaleLaw t

/-- The pending list keeps one request for each requester in the order of priority and arrival; nothing waits while
the generator is IDLE, and in SPACE and GAP the sounding request is the head: each step keeps it (R121, R122, R124). -/
def Obligations.ChimeListKeepsItsOrder : Prop :=
  ∀ s t : State, ChimeListLaw s → step s = .next t → ChimeListLaw t

/-- The activation list holds exactly the warnings shown, the attention list exactly those not acknowledged, by
severity and then by age, and each telltale stands at the most urgent pattern of its warnings: each step keeps both
together (R105, R110, R113, R115). -/
def Obligations.WarningListsStaySettled : Prop :=
  ∀ s t : State, AttentionLaw s → TelltaleLaw s → step s = .next t → AttentionLaw t ∧ TelltaleLaw t

/-- A locked-out output stays locked out until a RUN entry, a loss of supply, or a start, whatever the command (R56);
the odometer total, once VALID, never decreases but by those (R64, R68). In OFF and while a RESET waits, a start may
come. -/
def Obligations.LockoutsAndTotalsStand : Prop :=
  ∀ s t : State, step s = .next t → s.powered = true → t.powered = true → s.link.resetPending = false →
    (∀ o, o < 16 → (s.out o).state = .lockedOut →
      (t.out o).state = .lockedOut ∨ (s.power.mode = .sleep ∧ t.power.mode = .run)) ∧
    (totalOk s.distance.record.total → s.distance.record.totalValid = true →
      totalOk t.distance.record.total ∧ t.distance.record.totalValid = true ∧
      digitsVal s.distance.record.total ≤ digitsVal t.distance.record.total)

/-- What reset leaves: no supply and so no block at work, each in its power-on state under the factory configuration
(R16, R37, R46, R51, R62, R76, R95, R118, R132, R152, R164, R178), and every law of the 4C24 holding. That the machine
begins in OFF, before its first start, with a store whose items all fail their check, and that a door's code is then
NOT_FITTED, is the model's choice (log 5, log 6). -/
def Obligations.ResetLeavesEveryBlockAtRest : Prop :=
  let r := State.reset
  (r.power.mode = .off ∧ r.image = ConfigImage.factory ∧ r.handed = [] ∧ r.pending = [] ∧
    (∀ i, i < 64 → r.sig i = ⟨factorySig i, (factorySig i).substitute.getD (factorySig i).rangeMin, .failed, 65535,
      ⟨false, false, false, false⟩, false, ⟨false, 0⟩, ⟨false, 0⟩⟩) ∧
    (∀ i, i < 4 → (r.chan i).capturing = false ∧ (r.chan i).n = 0 ∧ (r.chan i).t = 0 ∧ (r.chan i).fPrev = 0 ∧
      (r.chan i).reference = none ∧ (r.chan i).qual = none ∧ (r.chan i).log = [] ∧ (r.chan i).logOverrun = false ∧
      (r.chan i).abortHold = false ∧ (r.chan i).wiring = ⟨.clean, none, none⟩) ∧
    r.repeater.high = false ∧ r.repeater.half = none ∧
    (∀ i, i < 12 → (r.sender i).filter = none ∧ (r.sender i).wiring = ⟨.clean, none, none⟩ ∧
      (r.sender i).sampleOn = false) ∧
    (∀ k, k < 24 → (r.switch k).debounced = none ∧ (r.switch k).candidate = none ∧
      (r.switch k).wiring = ⟨.clean, none, none⟩) ∧
    r.supply.underLimit = false ∧ r.supply.overLimit = false ∧
    (∀ o, o < 16 → (r.out o).state = .off ∧ (r.out o).drive = .off ∧ (r.out o).shortCount = 0 ∧
      (r.out o).force = none ∧ (r.out o).shortProven = false ∧ (r.out o).cut = false ∧ (r.out o).request = false) ∧
    r.distance.r = 0 ∧ r.distance.sub = 0 ∧ r.distance.gate = false ∧
    (∀ g, g < 6 → (r.gauge g).state = .unhomed ∧ (r.gauge g).p = 0 ∧ (r.gauge g).s = 0 ∧ (r.gauge g).tracked = none ∧
      (r.gauge g).testPos = none ∧ (r.gauge g).freeze = none) ∧
    (∀ w, w < 32 → (r.warn w).state = .inactive ∧ (r.warn w).acked = false ∧
      (r.warn w).results = [false, false, false, false] ∧ (r.warn w).configChain = false) ∧
    r.warnings.activation = [] ∧ r.warnings.attention = [] ∧ r.warnings.blink = 0 ∧ r.warnings.proveOut = none ∧
    (∀ n, n < 32 → tget r.warnings.telltales n = ⟨.off, .off⟩) ∧
    r.chime.state = .idle ∧ r.chime.requests = [] ∧ r.chime.sounding = none ∧ r.chime.fault = none ∧
    r.chime.level = false ∧
    (∀ d, d < 4 → (r.door d).stuck = false ∧ (r.door d).implausible = false ∧ (r.door d).travel = none ∧
      (r.door d).implausTimer = none ∧ (r.door d).code = 8) ∧
    (r.store.configGood = false ∧ r.store.countersGood = false ∧ r.store.doorCountsGood = false ∧
      r.store.faultsGood = false) ∧
    r.doors.permission = false ∧ r.doors.stop = .none ∧ r.doors.interlockFault = false ∧ r.doors.run = .stopped ∧
    r.faults.records = [] ∧ r.faults.counter = 1 ∧ r.faults.full = false ∧ r.faults.cursor = 0 ∧
    r.faults.freezeList = [] ∧ r.faults.healLimit = 40 ∧ r.faults.service = false ∧
    r.link.rx = none ∧ r.link.slots = [] ∧ r.link.busy = [] ∧ r.link.replies = [] ∧ r.link.reports = [] ∧
    r.link.badFrame = false ∧ r.link.reportsLost = false ∧ r.link.lostCount = 0 ∧ r.link.enabled = 0#16) ∧
  SignalRangeLaw r ∧ ReportQueueLaw r ∧ CommitListLaw r ∧ RequestBufferLaw r ∧ FaultMemoryLaw r ∧ InterlockLaw r ∧
  StopLatchLaw r ∧ OutputForceLaw r ∧ GaugeScaleLaw r ∧ ChimeListLaw r ∧ AttentionLaw r ∧ TelltaleLaw r ∧ DoorInputLaw r
end

