-- ==== Sys2Proof/Laws/State.lean ====
section
/-!
SUPPORT. One lemma for each field of each update of State, true by rfl.
-/
namespace Sys2Proof.Machine

@[simp] theorem State.setSignals_signals (s : State) (x) : (s.setSignals x).signals = x := rfl
@[simp] theorem State.setSignals_pulse (s : State) (x) : (s.setSignals x).pulse = s.pulse := rfl
@[simp] theorem State.setSignals_repeater (s : State) (x) : (s.setSignals x).repeater = s.repeater := rfl
@[simp] theorem State.setSignals_senders (s : State) (x) : (s.setSignals x).senders = s.senders := rfl
@[simp] theorem State.setSignals_switches (s : State) (x) : (s.setSignals x).switches = s.switches := rfl
@[simp] theorem State.setSignals_supply (s : State) (x) : (s.setSignals x).supply = s.supply := rfl
@[simp] theorem State.setSignals_outputs (s : State) (x) : (s.setSignals x).outputs = s.outputs := rfl
@[simp] theorem State.setSignals_distance (s : State) (x) : (s.setSignals x).distance = s.distance := rfl
@[simp] theorem State.setSignals_gauges (s : State) (x) : (s.setSignals x).gauges = s.gauges := rfl
@[simp] theorem State.setSignals_warnings (s : State) (x) : (s.setSignals x).warnings = s.warnings := rfl
@[simp] theorem State.setSignals_chime (s : State) (x) : (s.setSignals x).chime = s.chime := rfl
@[simp] theorem State.setSignals_doors (s : State) (x) : (s.setSignals x).doors = s.doors := rfl
@[simp] theorem State.setSignals_faults (s : State) (x) : (s.setSignals x).faults = s.faults := rfl
@[simp] theorem State.setSignals_link (s : State) (x) : (s.setSignals x).link = s.link := rfl
@[simp] theorem State.setSignals_power (s : State) (x) : (s.setSignals x).power = s.power := rfl
@[simp] theorem State.setSignals_store (s : State) (x) : (s.setSignals x).store = s.store := rfl
@[simp] theorem State.setSignals_handed (s : State) (x) : (s.setSignals x).handed = s.handed := rfl
@[simp] theorem State.setSignals_clock (s : State) (x) : (s.setSignals x).clock = s.clock := rfl
@[simp] theorem State.setSignals_pending (s : State) (x) : (s.setSignals x).pending = s.pending := rfl

@[simp] theorem State.setPulse_signals (s : State) (x) : (s.setPulse x).signals = s.signals := rfl
@[simp] theorem State.setPulse_pulse (s : State) (x) : (s.setPulse x).pulse = x := rfl
@[simp] theorem State.setPulse_repeater (s : State) (x) : (s.setPulse x).repeater = s.repeater := rfl
@[simp] theorem State.setPulse_senders (s : State) (x) : (s.setPulse x).senders = s.senders := rfl
@[simp] theorem State.setPulse_switches (s : State) (x) : (s.setPulse x).switches = s.switches := rfl
@[simp] theorem State.setPulse_supply (s : State) (x) : (s.setPulse x).supply = s.supply := rfl
@[simp] theorem State.setPulse_outputs (s : State) (x) : (s.setPulse x).outputs = s.outputs := rfl
@[simp] theorem State.setPulse_distance (s : State) (x) : (s.setPulse x).distance = s.distance := rfl
@[simp] theorem State.setPulse_gauges (s : State) (x) : (s.setPulse x).gauges = s.gauges := rfl
@[simp] theorem State.setPulse_warnings (s : State) (x) : (s.setPulse x).warnings = s.warnings := rfl
@[simp] theorem State.setPulse_chime (s : State) (x) : (s.setPulse x).chime = s.chime := rfl
@[simp] theorem State.setPulse_doors (s : State) (x) : (s.setPulse x).doors = s.doors := rfl
@[simp] theorem State.setPulse_faults (s : State) (x) : (s.setPulse x).faults = s.faults := rfl
@[simp] theorem State.setPulse_link (s : State) (x) : (s.setPulse x).link = s.link := rfl
@[simp] theorem State.setPulse_power (s : State) (x) : (s.setPulse x).power = s.power := rfl
@[simp] theorem State.setPulse_store (s : State) (x) : (s.setPulse x).store = s.store := rfl
@[simp] theorem State.setPulse_handed (s : State) (x) : (s.setPulse x).handed = s.handed := rfl
@[simp] theorem State.setPulse_clock (s : State) (x) : (s.setPulse x).clock = s.clock := rfl
@[simp] theorem State.setPulse_pending (s : State) (x) : (s.setPulse x).pending = s.pending := rfl

@[simp] theorem State.setRepeater_signals (s : State) (x) : (s.setRepeater x).signals = s.signals := rfl
@[simp] theorem State.setRepeater_pulse (s : State) (x) : (s.setRepeater x).pulse = s.pulse := rfl
@[simp] theorem State.setRepeater_repeater (s : State) (x) : (s.setRepeater x).repeater = x := rfl
@[simp] theorem State.setRepeater_senders (s : State) (x) : (s.setRepeater x).senders = s.senders := rfl
@[simp] theorem State.setRepeater_switches (s : State) (x) : (s.setRepeater x).switches = s.switches := rfl
@[simp] theorem State.setRepeater_supply (s : State) (x) : (s.setRepeater x).supply = s.supply := rfl
@[simp] theorem State.setRepeater_outputs (s : State) (x) : (s.setRepeater x).outputs = s.outputs := rfl
@[simp] theorem State.setRepeater_distance (s : State) (x) : (s.setRepeater x).distance = s.distance := rfl
@[simp] theorem State.setRepeater_gauges (s : State) (x) : (s.setRepeater x).gauges = s.gauges := rfl
@[simp] theorem State.setRepeater_warnings (s : State) (x) : (s.setRepeater x).warnings = s.warnings := rfl
@[simp] theorem State.setRepeater_chime (s : State) (x) : (s.setRepeater x).chime = s.chime := rfl
@[simp] theorem State.setRepeater_doors (s : State) (x) : (s.setRepeater x).doors = s.doors := rfl
@[simp] theorem State.setRepeater_faults (s : State) (x) : (s.setRepeater x).faults = s.faults := rfl
@[simp] theorem State.setRepeater_link (s : State) (x) : (s.setRepeater x).link = s.link := rfl
@[simp] theorem State.setRepeater_power (s : State) (x) : (s.setRepeater x).power = s.power := rfl
@[simp] theorem State.setRepeater_store (s : State) (x) : (s.setRepeater x).store = s.store := rfl
@[simp] theorem State.setRepeater_handed (s : State) (x) : (s.setRepeater x).handed = s.handed := rfl
@[simp] theorem State.setRepeater_clock (s : State) (x) : (s.setRepeater x).clock = s.clock := rfl
@[simp] theorem State.setRepeater_pending (s : State) (x) : (s.setRepeater x).pending = s.pending := rfl

@[simp] theorem State.setSenders_signals (s : State) (x) : (s.setSenders x).signals = s.signals := rfl
@[simp] theorem State.setSenders_pulse (s : State) (x) : (s.setSenders x).pulse = s.pulse := rfl
@[simp] theorem State.setSenders_repeater (s : State) (x) : (s.setSenders x).repeater = s.repeater := rfl
@[simp] theorem State.setSenders_senders (s : State) (x) : (s.setSenders x).senders = x := rfl
@[simp] theorem State.setSenders_switches (s : State) (x) : (s.setSenders x).switches = s.switches := rfl
@[simp] theorem State.setSenders_supply (s : State) (x) : (s.setSenders x).supply = s.supply := rfl
@[simp] theorem State.setSenders_outputs (s : State) (x) : (s.setSenders x).outputs = s.outputs := rfl
@[simp] theorem State.setSenders_distance (s : State) (x) : (s.setSenders x).distance = s.distance := rfl
@[simp] theorem State.setSenders_gauges (s : State) (x) : (s.setSenders x).gauges = s.gauges := rfl
@[simp] theorem State.setSenders_warnings (s : State) (x) : (s.setSenders x).warnings = s.warnings := rfl
@[simp] theorem State.setSenders_chime (s : State) (x) : (s.setSenders x).chime = s.chime := rfl
@[simp] theorem State.setSenders_doors (s : State) (x) : (s.setSenders x).doors = s.doors := rfl
@[simp] theorem State.setSenders_faults (s : State) (x) : (s.setSenders x).faults = s.faults := rfl
@[simp] theorem State.setSenders_link (s : State) (x) : (s.setSenders x).link = s.link := rfl
@[simp] theorem State.setSenders_power (s : State) (x) : (s.setSenders x).power = s.power := rfl
@[simp] theorem State.setSenders_store (s : State) (x) : (s.setSenders x).store = s.store := rfl
@[simp] theorem State.setSenders_handed (s : State) (x) : (s.setSenders x).handed = s.handed := rfl
@[simp] theorem State.setSenders_clock (s : State) (x) : (s.setSenders x).clock = s.clock := rfl
@[simp] theorem State.setSenders_pending (s : State) (x) : (s.setSenders x).pending = s.pending := rfl

@[simp] theorem State.setSwitches_signals (s : State) (x) : (s.setSwitches x).signals = s.signals := rfl
@[simp] theorem State.setSwitches_pulse (s : State) (x) : (s.setSwitches x).pulse = s.pulse := rfl
@[simp] theorem State.setSwitches_repeater (s : State) (x) : (s.setSwitches x).repeater = s.repeater := rfl
@[simp] theorem State.setSwitches_senders (s : State) (x) : (s.setSwitches x).senders = s.senders := rfl
@[simp] theorem State.setSwitches_switches (s : State) (x) : (s.setSwitches x).switches = x := rfl
@[simp] theorem State.setSwitches_supply (s : State) (x) : (s.setSwitches x).supply = s.supply := rfl
@[simp] theorem State.setSwitches_outputs (s : State) (x) : (s.setSwitches x).outputs = s.outputs := rfl
@[simp] theorem State.setSwitches_distance (s : State) (x) : (s.setSwitches x).distance = s.distance := rfl
@[simp] theorem State.setSwitches_gauges (s : State) (x) : (s.setSwitches x).gauges = s.gauges := rfl
@[simp] theorem State.setSwitches_warnings (s : State) (x) : (s.setSwitches x).warnings = s.warnings := rfl
@[simp] theorem State.setSwitches_chime (s : State) (x) : (s.setSwitches x).chime = s.chime := rfl
@[simp] theorem State.setSwitches_doors (s : State) (x) : (s.setSwitches x).doors = s.doors := rfl
@[simp] theorem State.setSwitches_faults (s : State) (x) : (s.setSwitches x).faults = s.faults := rfl
@[simp] theorem State.setSwitches_link (s : State) (x) : (s.setSwitches x).link = s.link := rfl
@[simp] theorem State.setSwitches_power (s : State) (x) : (s.setSwitches x).power = s.power := rfl
@[simp] theorem State.setSwitches_store (s : State) (x) : (s.setSwitches x).store = s.store := rfl
@[simp] theorem State.setSwitches_handed (s : State) (x) : (s.setSwitches x).handed = s.handed := rfl
@[simp] theorem State.setSwitches_clock (s : State) (x) : (s.setSwitches x).clock = s.clock := rfl
@[simp] theorem State.setSwitches_pending (s : State) (x) : (s.setSwitches x).pending = s.pending := rfl

@[simp] theorem State.setSupply_signals (s : State) (x) : (s.setSupply x).signals = s.signals := rfl
@[simp] theorem State.setSupply_pulse (s : State) (x) : (s.setSupply x).pulse = s.pulse := rfl
@[simp] theorem State.setSupply_repeater (s : State) (x) : (s.setSupply x).repeater = s.repeater := rfl
@[simp] theorem State.setSupply_senders (s : State) (x) : (s.setSupply x).senders = s.senders := rfl
@[simp] theorem State.setSupply_switches (s : State) (x) : (s.setSupply x).switches = s.switches := rfl
@[simp] theorem State.setSupply_supply (s : State) (x) : (s.setSupply x).supply = x := rfl
@[simp] theorem State.setSupply_outputs (s : State) (x) : (s.setSupply x).outputs = s.outputs := rfl
@[simp] theorem State.setSupply_distance (s : State) (x) : (s.setSupply x).distance = s.distance := rfl
@[simp] theorem State.setSupply_gauges (s : State) (x) : (s.setSupply x).gauges = s.gauges := rfl
@[simp] theorem State.setSupply_warnings (s : State) (x) : (s.setSupply x).warnings = s.warnings := rfl
@[simp] theorem State.setSupply_chime (s : State) (x) : (s.setSupply x).chime = s.chime := rfl
@[simp] theorem State.setSupply_doors (s : State) (x) : (s.setSupply x).doors = s.doors := rfl
@[simp] theorem State.setSupply_faults (s : State) (x) : (s.setSupply x).faults = s.faults := rfl
@[simp] theorem State.setSupply_link (s : State) (x) : (s.setSupply x).link = s.link := rfl
@[simp] theorem State.setSupply_power (s : State) (x) : (s.setSupply x).power = s.power := rfl
@[simp] theorem State.setSupply_store (s : State) (x) : (s.setSupply x).store = s.store := rfl
@[simp] theorem State.setSupply_handed (s : State) (x) : (s.setSupply x).handed = s.handed := rfl
@[simp] theorem State.setSupply_clock (s : State) (x) : (s.setSupply x).clock = s.clock := rfl
@[simp] theorem State.setSupply_pending (s : State) (x) : (s.setSupply x).pending = s.pending := rfl

@[simp] theorem State.setOutputs_signals (s : State) (x) : (s.setOutputs x).signals = s.signals := rfl
@[simp] theorem State.setOutputs_pulse (s : State) (x) : (s.setOutputs x).pulse = s.pulse := rfl
@[simp] theorem State.setOutputs_repeater (s : State) (x) : (s.setOutputs x).repeater = s.repeater := rfl
@[simp] theorem State.setOutputs_senders (s : State) (x) : (s.setOutputs x).senders = s.senders := rfl
@[simp] theorem State.setOutputs_switches (s : State) (x) : (s.setOutputs x).switches = s.switches := rfl
@[simp] theorem State.setOutputs_supply (s : State) (x) : (s.setOutputs x).supply = s.supply := rfl
@[simp] theorem State.setOutputs_outputs (s : State) (x) : (s.setOutputs x).outputs = x := rfl
@[simp] theorem State.setOutputs_distance (s : State) (x) : (s.setOutputs x).distance = s.distance := rfl
@[simp] theorem State.setOutputs_gauges (s : State) (x) : (s.setOutputs x).gauges = s.gauges := rfl
@[simp] theorem State.setOutputs_warnings (s : State) (x) : (s.setOutputs x).warnings = s.warnings := rfl
@[simp] theorem State.setOutputs_chime (s : State) (x) : (s.setOutputs x).chime = s.chime := rfl
@[simp] theorem State.setOutputs_doors (s : State) (x) : (s.setOutputs x).doors = s.doors := rfl
@[simp] theorem State.setOutputs_faults (s : State) (x) : (s.setOutputs x).faults = s.faults := rfl
@[simp] theorem State.setOutputs_link (s : State) (x) : (s.setOutputs x).link = s.link := rfl
@[simp] theorem State.setOutputs_power (s : State) (x) : (s.setOutputs x).power = s.power := rfl
@[simp] theorem State.setOutputs_store (s : State) (x) : (s.setOutputs x).store = s.store := rfl
@[simp] theorem State.setOutputs_handed (s : State) (x) : (s.setOutputs x).handed = s.handed := rfl
@[simp] theorem State.setOutputs_clock (s : State) (x) : (s.setOutputs x).clock = s.clock := rfl
@[simp] theorem State.setOutputs_pending (s : State) (x) : (s.setOutputs x).pending = s.pending := rfl

@[simp] theorem State.setDistance_signals (s : State) (x) : (s.setDistance x).signals = s.signals := rfl
@[simp] theorem State.setDistance_pulse (s : State) (x) : (s.setDistance x).pulse = s.pulse := rfl
@[simp] theorem State.setDistance_repeater (s : State) (x) : (s.setDistance x).repeater = s.repeater := rfl
@[simp] theorem State.setDistance_senders (s : State) (x) : (s.setDistance x).senders = s.senders := rfl
@[simp] theorem State.setDistance_switches (s : State) (x) : (s.setDistance x).switches = s.switches := rfl
@[simp] theorem State.setDistance_supply (s : State) (x) : (s.setDistance x).supply = s.supply := rfl
@[simp] theorem State.setDistance_outputs (s : State) (x) : (s.setDistance x).outputs = s.outputs := rfl
@[simp] theorem State.setDistance_distance (s : State) (x) : (s.setDistance x).distance = x := rfl
@[simp] theorem State.setDistance_gauges (s : State) (x) : (s.setDistance x).gauges = s.gauges := rfl
@[simp] theorem State.setDistance_warnings (s : State) (x) : (s.setDistance x).warnings = s.warnings := rfl
@[simp] theorem State.setDistance_chime (s : State) (x) : (s.setDistance x).chime = s.chime := rfl
@[simp] theorem State.setDistance_doors (s : State) (x) : (s.setDistance x).doors = s.doors := rfl
@[simp] theorem State.setDistance_faults (s : State) (x) : (s.setDistance x).faults = s.faults := rfl
@[simp] theorem State.setDistance_link (s : State) (x) : (s.setDistance x).link = s.link := rfl
@[simp] theorem State.setDistance_power (s : State) (x) : (s.setDistance x).power = s.power := rfl
@[simp] theorem State.setDistance_store (s : State) (x) : (s.setDistance x).store = s.store := rfl
@[simp] theorem State.setDistance_handed (s : State) (x) : (s.setDistance x).handed = s.handed := rfl
@[simp] theorem State.setDistance_clock (s : State) (x) : (s.setDistance x).clock = s.clock := rfl
@[simp] theorem State.setDistance_pending (s : State) (x) : (s.setDistance x).pending = s.pending := rfl

@[simp] theorem State.setGauges_signals (s : State) (x) : (s.setGauges x).signals = s.signals := rfl
@[simp] theorem State.setGauges_pulse (s : State) (x) : (s.setGauges x).pulse = s.pulse := rfl
@[simp] theorem State.setGauges_repeater (s : State) (x) : (s.setGauges x).repeater = s.repeater := rfl
@[simp] theorem State.setGauges_senders (s : State) (x) : (s.setGauges x).senders = s.senders := rfl
@[simp] theorem State.setGauges_switches (s : State) (x) : (s.setGauges x).switches = s.switches := rfl
@[simp] theorem State.setGauges_supply (s : State) (x) : (s.setGauges x).supply = s.supply := rfl
@[simp] theorem State.setGauges_outputs (s : State) (x) : (s.setGauges x).outputs = s.outputs := rfl
@[simp] theorem State.setGauges_distance (s : State) (x) : (s.setGauges x).distance = s.distance := rfl
@[simp] theorem State.setGauges_gauges (s : State) (x) : (s.setGauges x).gauges = x := rfl
@[simp] theorem State.setGauges_warnings (s : State) (x) : (s.setGauges x).warnings = s.warnings := rfl
@[simp] theorem State.setGauges_chime (s : State) (x) : (s.setGauges x).chime = s.chime := rfl
@[simp] theorem State.setGauges_doors (s : State) (x) : (s.setGauges x).doors = s.doors := rfl
@[simp] theorem State.setGauges_faults (s : State) (x) : (s.setGauges x).faults = s.faults := rfl
@[simp] theorem State.setGauges_link (s : State) (x) : (s.setGauges x).link = s.link := rfl
@[simp] theorem State.setGauges_power (s : State) (x) : (s.setGauges x).power = s.power := rfl
@[simp] theorem State.setGauges_store (s : State) (x) : (s.setGauges x).store = s.store := rfl
@[simp] theorem State.setGauges_handed (s : State) (x) : (s.setGauges x).handed = s.handed := rfl
@[simp] theorem State.setGauges_clock (s : State) (x) : (s.setGauges x).clock = s.clock := rfl
@[simp] theorem State.setGauges_pending (s : State) (x) : (s.setGauges x).pending = s.pending := rfl

@[simp] theorem State.setWarnings_signals (s : State) (x) : (s.setWarnings x).signals = s.signals := rfl
@[simp] theorem State.setWarnings_pulse (s : State) (x) : (s.setWarnings x).pulse = s.pulse := rfl
@[simp] theorem State.setWarnings_repeater (s : State) (x) : (s.setWarnings x).repeater = s.repeater := rfl
@[simp] theorem State.setWarnings_senders (s : State) (x) : (s.setWarnings x).senders = s.senders := rfl
@[simp] theorem State.setWarnings_switches (s : State) (x) : (s.setWarnings x).switches = s.switches := rfl
@[simp] theorem State.setWarnings_supply (s : State) (x) : (s.setWarnings x).supply = s.supply := rfl
@[simp] theorem State.setWarnings_outputs (s : State) (x) : (s.setWarnings x).outputs = s.outputs := rfl
@[simp] theorem State.setWarnings_distance (s : State) (x) : (s.setWarnings x).distance = s.distance := rfl
@[simp] theorem State.setWarnings_gauges (s : State) (x) : (s.setWarnings x).gauges = s.gauges := rfl
@[simp] theorem State.setWarnings_warnings (s : State) (x) : (s.setWarnings x).warnings = x := rfl
@[simp] theorem State.setWarnings_chime (s : State) (x) : (s.setWarnings x).chime = s.chime := rfl
@[simp] theorem State.setWarnings_doors (s : State) (x) : (s.setWarnings x).doors = s.doors := rfl
@[simp] theorem State.setWarnings_faults (s : State) (x) : (s.setWarnings x).faults = s.faults := rfl
@[simp] theorem State.setWarnings_link (s : State) (x) : (s.setWarnings x).link = s.link := rfl
@[simp] theorem State.setWarnings_power (s : State) (x) : (s.setWarnings x).power = s.power := rfl
@[simp] theorem State.setWarnings_store (s : State) (x) : (s.setWarnings x).store = s.store := rfl
@[simp] theorem State.setWarnings_handed (s : State) (x) : (s.setWarnings x).handed = s.handed := rfl
@[simp] theorem State.setWarnings_clock (s : State) (x) : (s.setWarnings x).clock = s.clock := rfl
@[simp] theorem State.setWarnings_pending (s : State) (x) : (s.setWarnings x).pending = s.pending := rfl

@[simp] theorem State.setChime_signals (s : State) (x) : (s.setChime x).signals = s.signals := rfl
@[simp] theorem State.setChime_pulse (s : State) (x) : (s.setChime x).pulse = s.pulse := rfl
@[simp] theorem State.setChime_repeater (s : State) (x) : (s.setChime x).repeater = s.repeater := rfl
@[simp] theorem State.setChime_senders (s : State) (x) : (s.setChime x).senders = s.senders := rfl
@[simp] theorem State.setChime_switches (s : State) (x) : (s.setChime x).switches = s.switches := rfl
@[simp] theorem State.setChime_supply (s : State) (x) : (s.setChime x).supply = s.supply := rfl
@[simp] theorem State.setChime_outputs (s : State) (x) : (s.setChime x).outputs = s.outputs := rfl
@[simp] theorem State.setChime_distance (s : State) (x) : (s.setChime x).distance = s.distance := rfl
@[simp] theorem State.setChime_gauges (s : State) (x) : (s.setChime x).gauges = s.gauges := rfl
@[simp] theorem State.setChime_warnings (s : State) (x) : (s.setChime x).warnings = s.warnings := rfl
@[simp] theorem State.setChime_chime (s : State) (x) : (s.setChime x).chime = x := rfl
@[simp] theorem State.setChime_doors (s : State) (x) : (s.setChime x).doors = s.doors := rfl
@[simp] theorem State.setChime_faults (s : State) (x) : (s.setChime x).faults = s.faults := rfl
@[simp] theorem State.setChime_link (s : State) (x) : (s.setChime x).link = s.link := rfl
@[simp] theorem State.setChime_power (s : State) (x) : (s.setChime x).power = s.power := rfl
@[simp] theorem State.setChime_store (s : State) (x) : (s.setChime x).store = s.store := rfl
@[simp] theorem State.setChime_handed (s : State) (x) : (s.setChime x).handed = s.handed := rfl
@[simp] theorem State.setChime_clock (s : State) (x) : (s.setChime x).clock = s.clock := rfl
@[simp] theorem State.setChime_pending (s : State) (x) : (s.setChime x).pending = s.pending := rfl

@[simp] theorem State.setDoors_signals (s : State) (x) : (s.setDoors x).signals = s.signals := rfl
@[simp] theorem State.setDoors_pulse (s : State) (x) : (s.setDoors x).pulse = s.pulse := rfl
@[simp] theorem State.setDoors_repeater (s : State) (x) : (s.setDoors x).repeater = s.repeater := rfl
@[simp] theorem State.setDoors_senders (s : State) (x) : (s.setDoors x).senders = s.senders := rfl
@[simp] theorem State.setDoors_switches (s : State) (x) : (s.setDoors x).switches = s.switches := rfl
@[simp] theorem State.setDoors_supply (s : State) (x) : (s.setDoors x).supply = s.supply := rfl
@[simp] theorem State.setDoors_outputs (s : State) (x) : (s.setDoors x).outputs = s.outputs := rfl
@[simp] theorem State.setDoors_distance (s : State) (x) : (s.setDoors x).distance = s.distance := rfl
@[simp] theorem State.setDoors_gauges (s : State) (x) : (s.setDoors x).gauges = s.gauges := rfl
@[simp] theorem State.setDoors_warnings (s : State) (x) : (s.setDoors x).warnings = s.warnings := rfl
@[simp] theorem State.setDoors_chime (s : State) (x) : (s.setDoors x).chime = s.chime := rfl
@[simp] theorem State.setDoors_doors (s : State) (x) : (s.setDoors x).doors = x := rfl
@[simp] theorem State.setDoors_faults (s : State) (x) : (s.setDoors x).faults = s.faults := rfl
@[simp] theorem State.setDoors_link (s : State) (x) : (s.setDoors x).link = s.link := rfl
@[simp] theorem State.setDoors_power (s : State) (x) : (s.setDoors x).power = s.power := rfl
@[simp] theorem State.setDoors_store (s : State) (x) : (s.setDoors x).store = s.store := rfl
@[simp] theorem State.setDoors_handed (s : State) (x) : (s.setDoors x).handed = s.handed := rfl
@[simp] theorem State.setDoors_clock (s : State) (x) : (s.setDoors x).clock = s.clock := rfl
@[simp] theorem State.setDoors_pending (s : State) (x) : (s.setDoors x).pending = s.pending := rfl

@[simp] theorem State.setFaults_signals (s : State) (x) : (s.setFaults x).signals = s.signals := rfl
@[simp] theorem State.setFaults_pulse (s : State) (x) : (s.setFaults x).pulse = s.pulse := rfl
@[simp] theorem State.setFaults_repeater (s : State) (x) : (s.setFaults x).repeater = s.repeater := rfl
@[simp] theorem State.setFaults_senders (s : State) (x) : (s.setFaults x).senders = s.senders := rfl
@[simp] theorem State.setFaults_switches (s : State) (x) : (s.setFaults x).switches = s.switches := rfl
@[simp] theorem State.setFaults_supply (s : State) (x) : (s.setFaults x).supply = s.supply := rfl
@[simp] theorem State.setFaults_outputs (s : State) (x) : (s.setFaults x).outputs = s.outputs := rfl
@[simp] theorem State.setFaults_distance (s : State) (x) : (s.setFaults x).distance = s.distance := rfl
@[simp] theorem State.setFaults_gauges (s : State) (x) : (s.setFaults x).gauges = s.gauges := rfl
@[simp] theorem State.setFaults_warnings (s : State) (x) : (s.setFaults x).warnings = s.warnings := rfl
@[simp] theorem State.setFaults_chime (s : State) (x) : (s.setFaults x).chime = s.chime := rfl
@[simp] theorem State.setFaults_doors (s : State) (x) : (s.setFaults x).doors = s.doors := rfl
@[simp] theorem State.setFaults_faults (s : State) (x) : (s.setFaults x).faults = x := rfl
@[simp] theorem State.setFaults_link (s : State) (x) : (s.setFaults x).link = s.link := rfl
@[simp] theorem State.setFaults_power (s : State) (x) : (s.setFaults x).power = s.power := rfl
@[simp] theorem State.setFaults_store (s : State) (x) : (s.setFaults x).store = s.store := rfl
@[simp] theorem State.setFaults_handed (s : State) (x) : (s.setFaults x).handed = s.handed := rfl
@[simp] theorem State.setFaults_clock (s : State) (x) : (s.setFaults x).clock = s.clock := rfl
@[simp] theorem State.setFaults_pending (s : State) (x) : (s.setFaults x).pending = s.pending := rfl

@[simp] theorem State.setLink_signals (s : State) (x) : (s.setLink x).signals = s.signals := rfl
@[simp] theorem State.setLink_pulse (s : State) (x) : (s.setLink x).pulse = s.pulse := rfl
@[simp] theorem State.setLink_repeater (s : State) (x) : (s.setLink x).repeater = s.repeater := rfl
@[simp] theorem State.setLink_senders (s : State) (x) : (s.setLink x).senders = s.senders := rfl
@[simp] theorem State.setLink_switches (s : State) (x) : (s.setLink x).switches = s.switches := rfl
@[simp] theorem State.setLink_supply (s : State) (x) : (s.setLink x).supply = s.supply := rfl
@[simp] theorem State.setLink_outputs (s : State) (x) : (s.setLink x).outputs = s.outputs := rfl
@[simp] theorem State.setLink_distance (s : State) (x) : (s.setLink x).distance = s.distance := rfl
@[simp] theorem State.setLink_gauges (s : State) (x) : (s.setLink x).gauges = s.gauges := rfl
@[simp] theorem State.setLink_warnings (s : State) (x) : (s.setLink x).warnings = s.warnings := rfl
@[simp] theorem State.setLink_chime (s : State) (x) : (s.setLink x).chime = s.chime := rfl
@[simp] theorem State.setLink_doors (s : State) (x) : (s.setLink x).doors = s.doors := rfl
@[simp] theorem State.setLink_faults (s : State) (x) : (s.setLink x).faults = s.faults := rfl
@[simp] theorem State.setLink_link (s : State) (x) : (s.setLink x).link = x := rfl
@[simp] theorem State.setLink_power (s : State) (x) : (s.setLink x).power = s.power := rfl
@[simp] theorem State.setLink_store (s : State) (x) : (s.setLink x).store = s.store := rfl
@[simp] theorem State.setLink_handed (s : State) (x) : (s.setLink x).handed = s.handed := rfl
@[simp] theorem State.setLink_clock (s : State) (x) : (s.setLink x).clock = s.clock := rfl
@[simp] theorem State.setLink_pending (s : State) (x) : (s.setLink x).pending = s.pending := rfl

@[simp] theorem State.setPower_signals (s : State) (x) : (s.setPower x).signals = s.signals := rfl
@[simp] theorem State.setPower_pulse (s : State) (x) : (s.setPower x).pulse = s.pulse := rfl
@[simp] theorem State.setPower_repeater (s : State) (x) : (s.setPower x).repeater = s.repeater := rfl
@[simp] theorem State.setPower_senders (s : State) (x) : (s.setPower x).senders = s.senders := rfl
@[simp] theorem State.setPower_switches (s : State) (x) : (s.setPower x).switches = s.switches := rfl
@[simp] theorem State.setPower_supply (s : State) (x) : (s.setPower x).supply = s.supply := rfl
@[simp] theorem State.setPower_outputs (s : State) (x) : (s.setPower x).outputs = s.outputs := rfl
@[simp] theorem State.setPower_distance (s : State) (x) : (s.setPower x).distance = s.distance := rfl
@[simp] theorem State.setPower_gauges (s : State) (x) : (s.setPower x).gauges = s.gauges := rfl
@[simp] theorem State.setPower_warnings (s : State) (x) : (s.setPower x).warnings = s.warnings := rfl
@[simp] theorem State.setPower_chime (s : State) (x) : (s.setPower x).chime = s.chime := rfl
@[simp] theorem State.setPower_doors (s : State) (x) : (s.setPower x).doors = s.doors := rfl
@[simp] theorem State.setPower_faults (s : State) (x) : (s.setPower x).faults = s.faults := rfl
@[simp] theorem State.setPower_link (s : State) (x) : (s.setPower x).link = s.link := rfl
@[simp] theorem State.setPower_power (s : State) (x) : (s.setPower x).power = x := rfl
@[simp] theorem State.setPower_store (s : State) (x) : (s.setPower x).store = s.store := rfl
@[simp] theorem State.setPower_handed (s : State) (x) : (s.setPower x).handed = s.handed := rfl
@[simp] theorem State.setPower_clock (s : State) (x) : (s.setPower x).clock = s.clock := rfl
@[simp] theorem State.setPower_pending (s : State) (x) : (s.setPower x).pending = s.pending := rfl

@[simp] theorem State.setStore_signals (s : State) (x) : (s.setStore x).signals = s.signals := rfl
@[simp] theorem State.setStore_pulse (s : State) (x) : (s.setStore x).pulse = s.pulse := rfl
@[simp] theorem State.setStore_repeater (s : State) (x) : (s.setStore x).repeater = s.repeater := rfl
@[simp] theorem State.setStore_senders (s : State) (x) : (s.setStore x).senders = s.senders := rfl
@[simp] theorem State.setStore_switches (s : State) (x) : (s.setStore x).switches = s.switches := rfl
@[simp] theorem State.setStore_supply (s : State) (x) : (s.setStore x).supply = s.supply := rfl
@[simp] theorem State.setStore_outputs (s : State) (x) : (s.setStore x).outputs = s.outputs := rfl
@[simp] theorem State.setStore_distance (s : State) (x) : (s.setStore x).distance = s.distance := rfl
@[simp] theorem State.setStore_gauges (s : State) (x) : (s.setStore x).gauges = s.gauges := rfl
@[simp] theorem State.setStore_warnings (s : State) (x) : (s.setStore x).warnings = s.warnings := rfl
@[simp] theorem State.setStore_chime (s : State) (x) : (s.setStore x).chime = s.chime := rfl
@[simp] theorem State.setStore_doors (s : State) (x) : (s.setStore x).doors = s.doors := rfl
@[simp] theorem State.setStore_faults (s : State) (x) : (s.setStore x).faults = s.faults := rfl
@[simp] theorem State.setStore_link (s : State) (x) : (s.setStore x).link = s.link := rfl
@[simp] theorem State.setStore_power (s : State) (x) : (s.setStore x).power = s.power := rfl
@[simp] theorem State.setStore_store (s : State) (x) : (s.setStore x).store = x := rfl
@[simp] theorem State.setStore_handed (s : State) (x) : (s.setStore x).handed = s.handed := rfl
@[simp] theorem State.setStore_clock (s : State) (x) : (s.setStore x).clock = s.clock := rfl
@[simp] theorem State.setStore_pending (s : State) (x) : (s.setStore x).pending = s.pending := rfl

@[simp] theorem State.setHanded_signals (s : State) (x) : (s.setHanded x).signals = s.signals := rfl
@[simp] theorem State.setHanded_pulse (s : State) (x) : (s.setHanded x).pulse = s.pulse := rfl
@[simp] theorem State.setHanded_repeater (s : State) (x) : (s.setHanded x).repeater = s.repeater := rfl
@[simp] theorem State.setHanded_senders (s : State) (x) : (s.setHanded x).senders = s.senders := rfl
@[simp] theorem State.setHanded_switches (s : State) (x) : (s.setHanded x).switches = s.switches := rfl
@[simp] theorem State.setHanded_supply (s : State) (x) : (s.setHanded x).supply = s.supply := rfl
@[simp] theorem State.setHanded_outputs (s : State) (x) : (s.setHanded x).outputs = s.outputs := rfl
@[simp] theorem State.setHanded_distance (s : State) (x) : (s.setHanded x).distance = s.distance := rfl
@[simp] theorem State.setHanded_gauges (s : State) (x) : (s.setHanded x).gauges = s.gauges := rfl
@[simp] theorem State.setHanded_warnings (s : State) (x) : (s.setHanded x).warnings = s.warnings := rfl
@[simp] theorem State.setHanded_chime (s : State) (x) : (s.setHanded x).chime = s.chime := rfl
@[simp] theorem State.setHanded_doors (s : State) (x) : (s.setHanded x).doors = s.doors := rfl
@[simp] theorem State.setHanded_faults (s : State) (x) : (s.setHanded x).faults = s.faults := rfl
@[simp] theorem State.setHanded_link (s : State) (x) : (s.setHanded x).link = s.link := rfl
@[simp] theorem State.setHanded_power (s : State) (x) : (s.setHanded x).power = s.power := rfl
@[simp] theorem State.setHanded_store (s : State) (x) : (s.setHanded x).store = s.store := rfl
@[simp] theorem State.setHanded_handed (s : State) (x) : (s.setHanded x).handed = x := rfl
@[simp] theorem State.setHanded_clock (s : State) (x) : (s.setHanded x).clock = s.clock := rfl
@[simp] theorem State.setHanded_pending (s : State) (x) : (s.setHanded x).pending = s.pending := rfl

@[simp] theorem State.setClock_signals (s : State) (x) : (s.setClock x).signals = s.signals := rfl
@[simp] theorem State.setClock_pulse (s : State) (x) : (s.setClock x).pulse = s.pulse := rfl
@[simp] theorem State.setClock_repeater (s : State) (x) : (s.setClock x).repeater = s.repeater := rfl
@[simp] theorem State.setClock_senders (s : State) (x) : (s.setClock x).senders = s.senders := rfl
@[simp] theorem State.setClock_switches (s : State) (x) : (s.setClock x).switches = s.switches := rfl
@[simp] theorem State.setClock_supply (s : State) (x) : (s.setClock x).supply = s.supply := rfl
@[simp] theorem State.setClock_outputs (s : State) (x) : (s.setClock x).outputs = s.outputs := rfl
@[simp] theorem State.setClock_distance (s : State) (x) : (s.setClock x).distance = s.distance := rfl
@[simp] theorem State.setClock_gauges (s : State) (x) : (s.setClock x).gauges = s.gauges := rfl
@[simp] theorem State.setClock_warnings (s : State) (x) : (s.setClock x).warnings = s.warnings := rfl
@[simp] theorem State.setClock_chime (s : State) (x) : (s.setClock x).chime = s.chime := rfl
@[simp] theorem State.setClock_doors (s : State) (x) : (s.setClock x).doors = s.doors := rfl
@[simp] theorem State.setClock_faults (s : State) (x) : (s.setClock x).faults = s.faults := rfl
@[simp] theorem State.setClock_link (s : State) (x) : (s.setClock x).link = s.link := rfl
@[simp] theorem State.setClock_power (s : State) (x) : (s.setClock x).power = s.power := rfl
@[simp] theorem State.setClock_store (s : State) (x) : (s.setClock x).store = s.store := rfl
@[simp] theorem State.setClock_handed (s : State) (x) : (s.setClock x).handed = s.handed := rfl
@[simp] theorem State.setClock_clock (s : State) (x) : (s.setClock x).clock = x := rfl
@[simp] theorem State.setClock_pending (s : State) (x) : (s.setClock x).pending = s.pending := rfl

@[simp] theorem State.setPending_signals (s : State) (x) : (s.setPending x).signals = s.signals := rfl
@[simp] theorem State.setPending_pulse (s : State) (x) : (s.setPending x).pulse = s.pulse := rfl
@[simp] theorem State.setPending_repeater (s : State) (x) : (s.setPending x).repeater = s.repeater := rfl
@[simp] theorem State.setPending_senders (s : State) (x) : (s.setPending x).senders = s.senders := rfl
@[simp] theorem State.setPending_switches (s : State) (x) : (s.setPending x).switches = s.switches := rfl
@[simp] theorem State.setPending_supply (s : State) (x) : (s.setPending x).supply = s.supply := rfl
@[simp] theorem State.setPending_outputs (s : State) (x) : (s.setPending x).outputs = s.outputs := rfl
@[simp] theorem State.setPending_distance (s : State) (x) : (s.setPending x).distance = s.distance := rfl
@[simp] theorem State.setPending_gauges (s : State) (x) : (s.setPending x).gauges = s.gauges := rfl
@[simp] theorem State.setPending_warnings (s : State) (x) : (s.setPending x).warnings = s.warnings := rfl
@[simp] theorem State.setPending_chime (s : State) (x) : (s.setPending x).chime = s.chime := rfl
@[simp] theorem State.setPending_doors (s : State) (x) : (s.setPending x).doors = s.doors := rfl
@[simp] theorem State.setPending_faults (s : State) (x) : (s.setPending x).faults = s.faults := rfl
@[simp] theorem State.setPending_link (s : State) (x) : (s.setPending x).link = s.link := rfl
@[simp] theorem State.setPending_power (s : State) (x) : (s.setPending x).power = s.power := rfl
@[simp] theorem State.setPending_store (s : State) (x) : (s.setPending x).store = s.store := rfl
@[simp] theorem State.setPending_handed (s : State) (x) : (s.setPending x).handed = s.handed := rfl
@[simp] theorem State.setPending_clock (s : State) (x) : (s.setPending x).clock = s.clock := rfl
@[simp] theorem State.setPending_pending (s : State) (x) : (s.setPending x).pending = x := rfl

end Sys2Proof.Machine
end

