-- ==== Sys2Proof/Laws/Frames.lean ====
section
/-!
SUPPORT. What each operation of the machine can change. `Closed B Q` says that a property of states survives the touches
in `B`; the lemma `f_keeps` of an operation `f` names the touches it is made of, once for all properties. A touch is an
update of one block, or one of the shared operations that alter blocks in a narrow way (`enqueue`, `serve`, `offer`, the
answer to a request, an owner's request to an output, the report on parking, the judging of the hours gate). A frame is
the instance at "this block reads as before" (`Closed.same`); an invariant of one block needs work only at the few
operations that touch that block.
-/
namespace Sys2Proof.Machine

/-- What operations are made of. -/
inductive Touch where
  | signals | pulse | repeater | senders | switches | supply | outputs | distance | gauges | warnings | chime | doors
  | faults | link | power | store | handed | clock | pending
  | enqueue | serve | parking | offer | reply | request | gate | write
  deriving DecidableEq, Repr

/-- A property of states survives a touch. -/
def Touch.survives : Touch → (State → Prop) → Prop
  | .signals, Q => ∀ s x, Q s → Q (s.setSignals x)
  | .pulse, Q => ∀ s x, Q s → Q (s.setPulse x)
  | .repeater, Q => ∀ s x, Q s → Q (s.setRepeater x)
  | .senders, Q => ∀ s x, Q s → Q (s.setSenders x)
  | .switches, Q => ∀ s x, Q s → Q (s.setSwitches x)
  | .supply, Q => ∀ s x, Q s → Q (s.setSupply x)
  | .outputs, Q => ∀ s x, Q s → Q (s.setOutputs x)
  | .distance, Q => ∀ s x, Q s → Q (s.setDistance x)
  | .gauges, Q => ∀ s x, Q s → Q (s.setGauges x)
  | .warnings, Q => ∀ s x, Q s → Q (s.setWarnings x)
  | .chime, Q => ∀ s x, Q s → Q (s.setChime x)
  | .doors, Q => ∀ s x, Q s → Q (s.setDoors x)
  | .faults, Q => ∀ s x, Q s → Q (s.setFaults x)
  | .link, Q => ∀ s x, Q s → Q (s.setLink x)
  | .power, Q => ∀ s x, Q s → Q (s.setPower x)
  | .store, Q => ∀ s x, Q s → Q (s.setStore x)
  | .handed, Q => ∀ s x, Q s → Q (s.setHanded x)
  | .clock, Q => ∀ s x, Q s → Q (s.setClock x)
  | .pending, Q => ∀ s x, Q s → Q (s.setPending x)
  | .enqueue, Q => ∀ s i, Q s → Q (Machine.enqueue i s)
  | .serve, Q => ∀ s, Q s → Q (Machine.serve s)
  | .parking, Q => ∀ s, Q s → Q (tellParking s)
  | .offer, Q => ∀ s k n b, Q s → Q (Machine.offer k n b s)
  | .reply, Q => ∀ s x r b rate, Q s → Q (s.setLink ((s.link.answer x r b rate).handNext))
  | .request, Q => ∀ s i, Q s → Q (handRequest i s)
  | .gate, Q => ∀ s, Q s → Q (judgeGate s)
  | .write, Q => ∀ s, Q s → (∀ i v ask, Q (writeFreshWith i v ask s)) ∧ (∀ i lost, Q (declareLoss i lost s)) ∧
      (∀ i v, Q (declareFailure i v s)) ∧ (∀ i f, Q (setFlags i f s)) ∧ ∀ i, Q (liftForce i s)

/-- The blocks a touch may alter. -/
def Touch.blocks : Touch → List Block
  | .signals => [.signals]
  | .pulse => [.pulse]
  | .repeater => [.repeater]
  | .senders => [.senders]
  | .switches => [.switches]
  | .supply => [.supply]
  | .outputs => [.outputs]
  | .distance => [.distance]
  | .gauges => [.gauges]
  | .warnings => [.warnings]
  | .chime => [.chime]
  | .doors => [.doors]
  | .faults => [.faults]
  | .link => [.link]
  | .power => [.power]
  | .store => [.store]
  | .handed => [.handed]
  | .clock => [.clock]
  | .pending => [.pending]
  | .enqueue | .serve | .parking => [.power]
  | .offer | .reply => [.link]
  | .request => [.outputs, .link, .handed]
  | .gate => [.distance]
  | .write => [.signals, .distance, .link, .handed]

/-- The update of a block, as a touch. -/
def Block.touch : Block → Touch
  | .signals => .signals
  | .pulse => .pulse
  | .repeater => .repeater
  | .senders => .senders
  | .switches => .switches
  | .supply => .supply
  | .outputs => .outputs
  | .distance => .distance
  | .gauges => .gauges
  | .warnings => .warnings
  | .chime => .chime
  | .doors => .doors
  | .faults => .faults
  | .link => .link
  | .power => .power
  | .store => .store
  | .handed => .handed
  | .clock => .clock
  | .pending => .pending

/-- A property of states survives the touches of `B`. -/
def Closed (B : List Touch) (Q : State → Prop) : Prop := ∀ b ∈ B, b.survives Q

theorem Closed.mono {B B' : List Touch} {Q : State → Prop} (h : Closed B Q) (hb : B'.all (B.contains ·) = true) :
    Closed B' Q := by
  intro b hm
  have := List.all_eq_true.mp hb b hm
  exact h b (by simpa using this)

/-- A record replaced and its watchers told: the record's own table, the flags report, the hours gate and hand-offs.
    -/
theorem putRec_of_parts {Q : State → Prop} (hs : Touch.signals.survives Q) (hg : Touch.gate.survives Q)
    (ho : Touch.offer.survives Q) (hh : Touch.handed.survives Q) (i : Nat) (new : SigRec) (write : Bool) (s : State)
    (q : Q s) : Q (putRec i new write s) := by
  have hand' : ∀ x t, Q t → Q (hand x t) := fun x t qt => hh _ _ qt
  have doors : ∀ k t, Q t → Q (notifyDoors k t) := by
    intro k t qt
    unfold notifyDoors
    generalize ([0, 1, 2, 3] : List (Fin 4)) = ds
    induction ds generalizing t with
    | nil => exact qt
    | cons d ds ih =>
      refine ih _ ?_
      dsimp only
      split
      · exact hand' _ _ qt
      · exact qt
  have role : ∀ r o n w t, Q t → Q (notifyRole r o n w t) := by
    intro r o n w t qt
    unfold notifyRole
    repeat' first | exact qt | apply hand' | split
  have flags : ∀ o n t, Q t → Q (offerFlags i o n t) := by
    intro o n t qt
    unfold offerFlags
    split
    · exact ho _ _ _ _ qt
    · exact qt
  have tell : ∀ o t, Q t → Q (notify i o new write t) := by
    intro o t qt
    unfold notify
    repeat' first | exact qt | apply hand' | exact hg _ qt | apply role | apply doors | split
  exact tell _ _ (flags _ _ _ (hs _ _ q))

/-- A property that survives the parts of a write survives the write. -/
theorem write_of_parts {Q : State → Prop} (hs : Touch.signals.survives Q) (hg : Touch.gate.survives Q)
    (ho : Touch.offer.survives Q) (hh : Touch.handed.survives Q) : Touch.write.survives Q := by
  intro s q
  have put : ∀ i n w, Q (putRec i n w s) := fun i n w => putRec_of_parts hs hg ho hh i n w s q
  refine ⟨fun i v ask => ?_, fun i l => ?_, fun i v => ?_, fun i f => put _ _ _, fun i => ?_⟩
  · unfold writeFreshWith sourceWrite; split <;> first | exact q | exact put _ _ _
  · unfold declareLoss sourceWrite; split <;> first | exact q | exact put _ _ _
  · unfold declareFailure sourceWrite; split <;> first | exact q | exact put _ _ _
  · unfold liftForce; split <;> first | exact q | exact put _ _ _

/-- A property that survives updates of every block a touch may alter survives the touch. -/
theorem Touch.survives_of_blocks {Q : State → Prop} (a : Touch) (h : ∀ b ∈ a.blocks, b.touch.survives Q) :
    a.survives Q := by
  cases a
  case enqueue =>
    have hp : Touch.power.survives Q := h .power (by decide)
    intro s i hs
    unfold Machine.enqueue
    split
    · exact hs
    · exact hp _ _ hs
  case serve =>
    have hp : Touch.power.survives Q := h .power (by decide)
    intro s hs
    unfold Machine.serve
    split
    · exact hp _ _ hs
    · exact hs
  case parking =>
    have hp : Touch.power.survives Q := h .power (by decide)
    intro s hs
    unfold tellParking
    split
    · exact hp _ _ hs
    · exact hs
  case offer =>
    have hl : Touch.link.survives Q := h .link (by decide)
    exact fun s k n b hs => hl _ _ hs
  case reply =>
    have hl : Touch.link.survives Q := h .link (by decide)
    exact fun s x r b rate hs => hl _ _ hs
  case request =>
    have hl : Touch.link.survives Q := h .link (by decide)
    have ho : Touch.outputs.survives Q := h .outputs (by decide)
    have hh : Touch.handed.survives Q := h .handed (by decide)
    intro s i hs
    unfold handRequest
    dsimp only
    split
    · exact hs
    · unfold putOutput
      dsimp only
      repeat' split
      · exact ho _ _ hs
      · exact hh _ _ (hl _ _ (ho _ _ hs))
      · exact hl _ _ (ho _ _ hs)
  case gate =>
    have hd : Touch.distance.survives Q := h .distance (by decide)
    exact fun s hs => hd _ _ hs
  case write =>
    have hd : Touch.distance.survives Q := h .distance (by decide)
    have hl : Touch.link.survives Q := h .link (by decide)
    exact write_of_parts (h .signals (by decide)) (fun s hs => hd _ _ hs) (fun s k n b hs => hl _ _ hs)
      (h .handed (by decide))
  all_goals exact h _ (List.mem_singleton.mpr rfl)

/-- Reading as before a block that no touch of `B` may alter survives the touches of `B`. -/
theorem Closed.same {B : List Touch} (s : State) (c : Block) (hc : B.all (fun a => !a.blocks.contains c) = true) :
    Closed B (fun t => c.same s t) := by
  intro a ha
  have hac := List.all_eq_true.mp hc a ha
  refine a.survives_of_blocks fun b hb => ?_
  have hne : b ≠ c := by
    intro e
    subst e
    simp_all
  cases b <;> cases c <;> first | exact absurd rfl hne | exact fun _ _ hq => hq

theorem State.setSignals_keeps {B : List Touch} {Q : State → Prop} (h : Closed B Q) (hb : Touch.signals ∈ B) {s :
    State} {x}
    (hs : Q s) : Q (s.setSignals x) := h .signals hb s x hs
theorem State.setPulse_keeps {B : List Touch} {Q : State → Prop} (h : Closed B Q) (hb : Touch.pulse ∈ B) {s : State}
    {x}
    (hs : Q s) : Q (s.setPulse x) := h .pulse hb s x hs
theorem State.setRepeater_keeps {B : List Touch} {Q : State → Prop} (h : Closed B Q) (hb : Touch.repeater ∈ B) {s :
    State} {x}
    (hs : Q s) : Q (s.setRepeater x) := h .repeater hb s x hs
theorem State.setSenders_keeps {B : List Touch} {Q : State → Prop} (h : Closed B Q) (hb : Touch.senders ∈ B) {s :
    State} {x}
    (hs : Q s) : Q (s.setSenders x) := h .senders hb s x hs
theorem State.setSwitches_keeps {B : List Touch} {Q : State → Prop} (h : Closed B Q) (hb : Touch.switches ∈ B) {s :
    State} {x}
    (hs : Q s) : Q (s.setSwitches x) := h .switches hb s x hs
theorem State.setSupply_keeps {B : List Touch} {Q : State → Prop} (h : Closed B Q) (hb : Touch.supply ∈ B) {s :
    State} {x}
    (hs : Q s) : Q (s.setSupply x) := h .supply hb s x hs
theorem State.setOutputs_keeps {B : List Touch} {Q : State → Prop} (h : Closed B Q) (hb : Touch.outputs ∈ B) {s :
    State} {x}
    (hs : Q s) : Q (s.setOutputs x) := h .outputs hb s x hs
theorem State.setDistance_keeps {B : List Touch} {Q : State → Prop} (h : Closed B Q) (hb : Touch.distance ∈ B) {s :
    State} {x}
    (hs : Q s) : Q (s.setDistance x) := h .distance hb s x hs
theorem State.setGauges_keeps {B : List Touch} {Q : State → Prop} (h : Closed B Q) (hb : Touch.gauges ∈ B) {s :
    State} {x}
    (hs : Q s) : Q (s.setGauges x) := h .gauges hb s x hs
theorem State.setWarnings_keeps {B : List Touch} {Q : State → Prop} (h : Closed B Q) (hb : Touch.warnings ∈ B) {s :
    State} {x}
    (hs : Q s) : Q (s.setWarnings x) := h .warnings hb s x hs
theorem State.setChime_keeps {B : List Touch} {Q : State → Prop} (h : Closed B Q) (hb : Touch.chime ∈ B) {s : State}
    {x}
    (hs : Q s) : Q (s.setChime x) := h .chime hb s x hs
theorem State.setDoors_keeps {B : List Touch} {Q : State → Prop} (h : Closed B Q) (hb : Touch.doors ∈ B) {s : State}
    {x}
    (hs : Q s) : Q (s.setDoors x) := h .doors hb s x hs
theorem State.setFaults_keeps {B : List Touch} {Q : State → Prop} (h : Closed B Q) (hb : Touch.faults ∈ B) {s :
    State} {x}
    (hs : Q s) : Q (s.setFaults x) := h .faults hb s x hs
theorem State.setLink_keeps {B : List Touch} {Q : State → Prop} (h : Closed B Q) (hb : Touch.link ∈ B) {s : State} {x}
    (hs : Q s) : Q (s.setLink x) := h .link hb s x hs
theorem State.setPower_keeps {B : List Touch} {Q : State → Prop} (h : Closed B Q) (hb : Touch.power ∈ B) {s : State}
    {x}
    (hs : Q s) : Q (s.setPower x) := h .power hb s x hs
theorem State.setStore_keeps {B : List Touch} {Q : State → Prop} (h : Closed B Q) (hb : Touch.store ∈ B) {s : State}
    {x}
    (hs : Q s) : Q (s.setStore x) := h .store hb s x hs
theorem State.setHanded_keeps {B : List Touch} {Q : State → Prop} (h : Closed B Q) (hb : Touch.handed ∈ B) {s :
    State} {x}
    (hs : Q s) : Q (s.setHanded x) := h .handed hb s x hs
theorem State.setClock_keeps {B : List Touch} {Q : State → Prop} (h : Closed B Q) (hb : Touch.clock ∈ B) {s : State}
    {x}
    (hs : Q s) : Q (s.setClock x) := h .clock hb s x hs
theorem State.setPending_keeps {B : List Touch} {Q : State → Prop} (h : Closed B Q) (hb : Touch.pending ∈ B) {s :
    State} {x}
    (hs : Q s) : Q (s.setPending x) := h .pending hb s x hs

theorem enqueue_keeps {Q : State → Prop} (h : Closed [.enqueue] Q) {i : Item} {s : State} (hs : Q s) :
    Q (enqueue i s) := h .enqueue (by decide) s i hs
theorem serve_keeps {Q : State → Prop} (h : Closed [.serve] Q) {s : State} (hs : Q s) : Q (serve s) :=
  h .serve (by decide) s hs
theorem tellParking_keeps {Q : State → Prop} (h : Closed [.parking] Q) {s : State} (hs : Q s) : Q (tellParking s) :=
  h .parking (by decide) s hs
theorem handRequest_keeps {Q : State → Prop} (h : Closed [.request] Q) {i : Nat} {s : State} (hs : Q s) :
    Q (handRequest i s) := h .request (by decide) s i hs
theorem writeFreshWith_keeps {Q : State → Prop} (h : Closed [.write] Q) {i : Nat} {v : Int} {ask : SigFlags} {s :
    State}
    (hs : Q s) : Q (writeFreshWith i v ask s) := (h .write (by decide) s hs).1 i v ask
theorem declareLoss_keeps {Q : State → Prop} (h : Closed [.write] Q) {i : Nat} {lost : Bool} {s : State} (hs : Q s) :
    Q (declareLoss i lost s) := (h .write (by decide) s hs).2.1 i lost
theorem declareFailure_keeps {Q : State → Prop} (h : Closed [.write] Q) {i : Nat} {v : Option Int} {s : State}
    (hs : Q s) : Q (declareFailure i v s) := (h .write (by decide) s hs).2.2.1 i v
theorem setFlags_keeps {Q : State → Prop} (h : Closed [.write] Q) {i : Nat} {f : SigFlags} {s : State} (hs : Q s) :
    Q (setFlags i f s) := (h .write (by decide) s hs).2.2.2.1 i f
theorem liftForce_keeps {Q : State → Prop} (h : Closed [.write] Q) {i : Nat} {s : State} (hs : Q s) :
    Q (liftForce i s) := (h .write (by decide) s hs).2.2.2.2 i
theorem judgeGate_keeps {Q : State → Prop} (h : Closed [.gate] Q) {s : State} (hs : Q s) : Q (judgeGate s) :=
  h .gate (by decide) s hs
theorem foldl_keeps {α : Type} {Q : State → Prop} {f : State → α → State} (hf : ∀ s x, Q s → Q (f s x))
    {xs : List α} {s : State} (hs : Q s) : Q (xs.foldl f s) := by
  induction xs generalizing s with
  | nil => exact hs
  | cons x xs ih => exact ih (hf s x hs)

theorem ite_keeps {Q : State → Prop} {c : Prop} [Decidable c] {a b : State} (ha : Q a) (hb : Q b) :
    Q (if c then a else b) := by split <;> assumption

theorem forEach_keeps {Q : State → Prop} {n : Nat} {f : Nat → State → State} (hf : ∀ i s, Q s → Q (f i s))
    {s : State} (hs : Q s) : Q (forEach n f s) := foldl_keeps (fun s i => hf i s) hs

theorem hand_keeps {Q : State → Prop} (h : Closed [.handed] Q) {x : Handoff} {s : State} (hs : Q s) : Q (hand x s) :=
  h .handed (by decide) _ _ hs
theorem take_keeps {Q : State → Prop} (h : Closed [.handed] Q) {x : Handoff} {s : State} (hs : Q s) : Q (take x s) :=
  h .handed (by decide) _ _ hs
theorem advance_keeps {Q : State → Prop} (h : Closed [.clock] Q) {t : Nat} {s : State} (hs : Q s) : Q (advance t s) :=
  h .clock (by decide) _ _ hs
theorem offer_keeps {Q : State → Prop} (h : Closed [.offer] Q) {k : ReportKind} {n : Nat} {b : ReportBody} {s : State}
    (hs : Q s) : Q (offer k n b s) := h .offer (by decide) _ _ _ _ hs
theorem withLink_keeps {Q : State → Prop} (h : Closed [.link] Q) {f : Link → Link} {s : State} (hs : Q s) :
    Q (withLink f s) := h .link (by decide) _ _ hs
theorem withPower_keeps {Q : State → Prop} (h : Closed [.power] Q) {f : Power → Power} {s : State} (hs : Q s) :
    Q (withPower f s) := h .power (by decide) _ _ hs
theorem withChime_keeps {Q : State → Prop} (h : Closed [.chime] Q) {f : Chime → Chime} {s : State} (hs : Q s) :
    Q (withChime f s) := h .chime (by decide) _ _ hs
theorem okChime_keeps {Q : State → Prop} (h : Closed [.chime] Q) {a : Bool} {f : Chime → Chime} {s : State} (hs : Q
    s) :
    Q (okChime a f s).state := h .chime (by decide) _ _ hs
theorem whenPowered_keeps {Q : State → Prop} {f : State → State} {s : State} (hf : Q s → Q (f s)) (hs : Q s) :
    Q (whenPowered f s) := by unfold whenPowered; split <;> first | exact hf hs | exact hs
theorem whenActive_keeps {Q : State → Prop} {f : State → State} {s : State} (hf : Q s → Q (f s)) (hs : Q s) :
    Q (whenActive f s) := by unfold whenActive; split <;> first | exact hf hs | exact hs
theorem taking_keeps {Q : State → Prop} (h : Closed [.handed] Q) {x : Handoff} {f : State → State} {s : State}
    (hf : ∀ s, Q s → Q (f s)) (hs : Q s) : Q (taking x f s) := by
  unfold taking; split
  · exact hf _ (take_keeps h hs)
  · exact hs
theorem takingActive_keeps {Q : State → Prop} (h : Closed [.handed] Q) {x : Handoff} {f : State → State} {s : State}
    (hf : ∀ s, Q s → Q (f s)) (hs : Q s) : Q (takingActive x f s) :=
  taking_keeps h (fun s hq => whenActive_keeps (hf s) hq) hs
theorem handle_keeps {Q : State → Prop} (h : Closed [.reply] Q) {k : Byte} {act : List Byte → State → Answer} {s :
    State}
    (ha : ∀ b, Q (act b s).state) (hs : Q s) : Q (handle k act s) := by
  unfold handle; split
  · exact hs
  · split
    · exact h .reply (by decide) _ _ _ _ _ (ha _)
    · exact hs
theorem ok_keeps {Q : State → Prop} {b : ReplyBody} {s : State} (hs : Q s) : Q (ok b s).state := hs
theorem okAdjusted_keeps {Q : State → Prop} {a : Bool} {b : ReplyBody} {s : State} (hs : Q s) :
    Q (okAdjusted a b s).state := hs
theorem refuse_keeps {Q : State → Prop} {r : Result} {s : State} (hs : Q s) : Q (refuse r s).state := hs
theorem checked_keeps {Q : State → Prop} {b : BodyForm} {act : State → Answer} {s : State} {xs : List Byte}
    (ha : Q (act s).state) (hs : Q s) : Q (checked b act xs s).state := by
  unfold checked; split
  · exact hs
  · split <;> first | exact hs | exact ha
theorem bare_keeps {Q : State → Prop} {act : State → Answer} {s : State} {xs : List Byte}
    (ha : Q (act s).state) (hs : Q s) : Q (bare act xs s).state := by
  unfold bare; split <;> first | exact ha | exact hs

theorem reportFault_keeps {Q : State → Prop} (h : Closed [.handed] Q)
    (c : FaultClass) (index : Nat) (y : Symptom) (active : Bool) {s : State} (hs : Q s) : Q (reportFault c index
        y active s) := by
  unfold reportFault
  repeat' first | with_reducible assumption | with_reducible apply hand_keeps (h.mono (by decide)) | split

theorem touch_keeps {Q : State → Prop} (h : Closed [.enqueue] Q)
    (i : Item) {s : State} (hs : Q s) : Q (touch i s) := by
  unfold touch
  repeat' first | with_reducible assumption | with_reducible apply enqueue_keeps (h.mono (by decide)) | split

theorem offerFlags_keeps {Q : State → Prop} (h : Closed [.offer] Q)
    (i : Nat) (old : SigRec) (new : SigRec) {s : State} (hs : Q s) : Q (offerFlags i old new s) := by
  unfold offerFlags
  repeat' first | with_reducible assumption | with_reducible apply offer_keeps (h.mono (by decide)) | split

theorem notifyDoors_keeps {Q : State → Prop} (h : Closed [.handed] Q)
    (k : Nat) {s : State} (hs : Q s) : Q (notifyDoors k s) := by
  unfold notifyDoors
  repeat' first
    | with_reducible assumption | (with_reducible apply foldl_keeps; intro _ _ _)
    | with_reducible apply hand_keeps (h.mono (by decide)) | split

theorem notifyRole_keeps {Q : State → Prop} (h : Closed [.handed] Q)
    (role : Role) (old : SigRec) (new : SigRec) (write : Bool) {s : State} (hs : Q s) : Q (notifyRole role old
        new write s) := by
  unfold notifyRole
  repeat' first | with_reducible assumption | with_reducible apply hand_keeps (h.mono (by decide)) | split

theorem notify_keeps {Q : State → Prop} (h : Closed [.handed, .gate] Q)
    (i : Nat) (old : SigRec) (new : SigRec) (write : Bool) {s : State} (hs : Q s) : Q (notify i old new write s) := by
  unfold notify
  repeat' first
    | with_reducible assumption | with_reducible apply hand_keeps (h.mono (by decide))
    | with_reducible apply judgeGate_keeps (h.mono (by decide))
    | with_reducible apply notifyDoors_keeps (h.mono (by decide))
    | with_reducible apply notifyRole_keeps (h.mono (by decide)) | extract_lets | with_reducible apply ite_keeps
    | split

theorem putRec_keeps {Q : State → Prop} (h : Closed [.signals, .handed, .offer, .gate] Q)
    (i : Nat) (new : SigRec) (write : Bool) {s : State} (hs : Q s) : Q (putRec i new write s) := by
  unfold putRec
  repeat' first
    | with_reducible assumption | with_reducible apply State.setSignals_keeps h (by decide)
    | with_reducible apply notify_keeps (h.mono (by decide))
    | with_reducible apply offerFlags_keeps (h.mono (by decide))

theorem sourceWrite_keeps {Q : State → Prop} (h : Closed [.signals, .handed, .offer, .gate] Q)
    (i : Nat) (f : SigRec → SigRec) {s : State} (hs : Q s) : Q (sourceWrite i f s) := by
  unfold sourceWrite
  repeat' first | with_reducible assumption | with_reducible apply putRec_keeps (h.mono (by decide)) | split

theorem writeFresh_keeps {Q : State → Prop} (h : Closed [.write] Q)
    (i : Nat) (v : Int) {s : State} (hs : Q s) : Q (writeFresh i v s) := by
  unfold writeFresh
  repeat' first | with_reducible assumption | with_reducible apply writeFreshWith_keeps (h.mono (by decide))

theorem liftAllForces_keeps {Q : State → Prop} (h : Closed [.write] Q)
     {s : State} (hs : Q s) : Q (liftAllForces s) := by
  unfold liftAllForces
  repeat' first
    | with_reducible assumption | (with_reducible apply forEach_keeps; intro _ _ _)
    | with_reducible apply liftForce_keeps (h.mono (by decide))

theorem ageTick_keeps {Q : State → Prop} (h : Closed [.signals, .handed, .offer, .gate] Q)
     {s : State} (hs : Q s) : Q (ageTick s) := by
  unfold ageTick
  repeat' first
    | with_reducible assumption | (with_reducible apply forEach_keeps; intro _ _ _)
    | with_reducible apply putRec_keeps (h.mono (by decide))

theorem applySigConfig_keeps {Q : State → Prop} (h : Closed [.signals, .handed, .offer, .gate] Q)
    (i : Nat) (c : SigCfg) {s : State} (hs : Q s) : Q (applySigConfig i c s) := by
  unfold applySigConfig
  repeat' first | with_reducible assumption | with_reducible apply putRec_keeps (h.mono (by decide))

theorem signalsRunEntry_keeps {Q : State → Prop} (h : Closed [.signals] Q)
     {s : State} (hs : Q s) : Q (signalsRunEntry s) := by
  unfold signalsRunEntry
  repeat' first | with_reducible assumption | with_reducible apply State.setSignals_keeps h (by decide)

theorem signalsSleepEntry_keeps {Q : State → Prop} (h : Closed [.signals] Q)
     {s : State} (hs : Q s) : Q (signalsSleepEntry s) := by
  unfold signalsSleepEntry
  repeat' first | with_reducible assumption | with_reducible apply State.setSignals_keeps h (by decide)

theorem holdExpiry_keeps {Q : State → Prop} (h : Closed [.signals, .handed, .offer, .gate] Q)
    (i : Nat) {s : State} (hs : Q s) : Q (holdExpiry i s) := by
  unfold holdExpiry
  repeat' first
    | with_reducible assumption | with_reducible apply putRec_keeps (h.mono (by decide)) | extract_lets
    | with_reducible apply ite_keeps | split

theorem refreshExpiry_keeps {Q : State → Prop} (h : Closed [.signals, .handed, .offer, .gate] Q)
    (h0 : Nat) {s : State} (hs : Q s) : Q (refreshExpiry h0 s) := by
  unfold refreshExpiry
  repeat' first
    | with_reducible assumption | with_reducible apply putRec_keeps (h.mono (by decide)) | extract_lets
    | with_reducible apply ite_keeps | split

theorem signalRead_keeps {Q : State → Prop} (body : List Byte) {s : State} (hs : Q s) : Q (signalRead body s).state
    := by
  unfold signalRead; first | exact hs | (repeat' first | exact hs | split)

theorem signalPut_keeps {Q : State → Prop} (h : Closed [.signals, .handed, .offer, .gate] Q)
    (i : Nat) (v : Int) (q : PutQuality) {s : State} (hs : Q s) : Q (signalPut i v q s).state := by
  unfold signalPut
  repeat' first
    | with_reducible assumption | with_reducible apply refuse_keeps | with_reducible apply okAdjusted_keeps
    | with_reducible apply putRec_keeps (h.mono (by decide)) | split

theorem signalConfig_keeps {Q : State → Prop} (h : Closed [.signals, .handed, .offer, .gate] Q)
    (i : Nat) (c : SigCfg) {s : State} (hs : Q s) : Q (signalConfig i c s).state := by
  unfold signalConfig
  repeat' first
    | with_reducible assumption | with_reducible apply refuse_keeps | with_reducible apply ok_keeps
    | with_reducible apply applySigConfig_keeps (h.mono (by decide)) | with_reducible apply okAdjusted_keeps | split

theorem clearFlags_keeps {Q : State → Prop} (h : Closed [.signals] Q)
    (f : SigFlags) (i : Nat) {s : State} (hs : Q s) : Q (clearFlags f i s) := by
  unfold clearFlags
  repeat' first | with_reducible assumption | with_reducible apply State.setSignals_keeps h (by decide)

theorem signalClearFlags_keeps {Q : State → Prop} (h : Closed [.signals] Q)
    (i : Option Nat) (f : SigFlags) {s : State} (hs : Q s) : Q (signalClearFlags i f s).state := by
  unfold signalClearFlags
  repeat' first
    | with_reducible assumption | (with_reducible apply forEach_keeps; intro _ _ _)
    | with_reducible apply refuse_keeps | with_reducible apply ok_keeps
    | with_reducible apply clearFlags_keeps (h.mono (by decide)) | split

theorem signalForce_keeps {Q : State → Prop} (h : Closed [.signals, .handed, .offer, .gate] Q)
    (i : Nat) (v : Int) {s : State} (hs : Q s) : Q (signalForce i v s).state := by
  unfold signalForce
  repeat' first
    | with_reducible assumption | with_reducible apply refuse_keeps | with_reducible apply ok_keeps
    | with_reducible apply putRec_keeps (h.mono (by decide)) | split

theorem signalRelease_keeps {Q : State → Prop} (h : Closed [.write] Q)
    (i : Nat) {s : State} (hs : Q s) : Q (signalRelease i s).state := by
  unfold signalRelease
  repeat' first
    | with_reducible assumption | with_reducible apply refuse_keeps | with_reducible apply ok_keeps
    | with_reducible apply liftForce_keeps (h.mono (by decide)) | split

theorem putOutput_keeps {Q : State → Prop} (h : Closed [.outputs, .handed, .offer] Q)
    (i : Nat) (new : Output) {s : State} (hs : Q s) : Q (putOutput i new s) := by
  unfold putOutput
  repeat' first
    | with_reducible assumption | with_reducible apply State.setOutputs_keeps h (by decide)
    | with_reducible apply offer_keeps (h.mono (by decide)) | with_reducible apply hand_keeps (h.mono (by decide))
    | extract_lets | with_reducible apply ite_keeps | split

theorem handRequests_keeps {Q : State → Prop} (h : Closed [.request] Q)
     {s : State} (hs : Q s) : Q (handRequests s) := by
  unfold handRequests
  repeat' first
    | with_reducible assumption | (with_reducible apply forEach_keeps; intro _ _ _)
    | with_reducible apply handRequest_keeps (h.mono (by decide))

theorem reportOutput_keeps {Q : State → Prop} (h : Closed [.handed] Q)
    (i : Nat) (y : Symptom) (active : Bool) {s : State} (hs : Q s) : Q (reportOutput i y active s) := by
  unfold reportOutput
  repeat' first | with_reducible assumption | with_reducible apply reportFault_keeps (h.mono (by decide))

theorem overcurrent_keeps {Q : State → Prop} (h : Closed [.outputs, .handed, .offer] Q)
    (i : Nat) {s : State} (hs : Q s) : Q (overcurrent i s) := by
  unfold overcurrent
  repeat' first
    | with_reducible assumption | with_reducible apply reportOutput_keeps (h.mono (by decide))
    | with_reducible apply putOutput_keeps (h.mono (by decide)) | extract_lets | with_reducible apply ite_keeps
    | split

theorem retryExpiry_keeps {Q : State → Prop} (h : Closed [.outputs, .handed, .offer] Q)
    (i : Nat) {s : State} (hs : Q s) : Q (retryExpiry i s) := by
  unfold retryExpiry
  repeat' first
    | with_reducible assumption | with_reducible apply putOutput_keeps (h.mono (by decide)) | extract_lets
    | with_reducible apply ite_keeps | split

theorem provingExpiry_keeps {Q : State → Prop} (h : Closed [.outputs, .handed, .offer] Q)
    (i : Nat) {s : State} (hs : Q s) : Q (provingExpiry i s) := by
  unfold provingExpiry
  repeat' first
    | with_reducible assumption | with_reducible apply reportOutput_keeps (h.mono (by decide))
    | with_reducible apply putOutput_keeps (h.mono (by decide)) | extract_lets | with_reducible apply ite_keeps
    | split

theorem enterSupplyShort_keeps {Q : State → Prop} (h : Closed [.outputs, .handed, .offer] Q)
    (i : Nat) (o : Output) {s : State} (hs : Q s) : Q (enterSupplyShort i o s) := by
  unfold enterSupplyShort
  repeat' first
    | with_reducible assumption | with_reducible apply reportOutput_keeps (h.mono (by decide))
    | with_reducible apply putOutput_keeps (h.mono (by decide)) | extract_lets | with_reducible apply ite_keeps
    | split

theorem senseDriven_keeps {Q : State → Prop} (h : Closed [.outputs, .handed, .offer] Q)
    (i : Nat) (reading : LineReading) (now : Nat) {s : State} (hs : Q s) : Q (senseDriven i reading now s) := by
  unfold senseDriven
  repeat' first
    | with_reducible assumption | with_reducible apply reportOutput_keeps (h.mono (by decide))
    | with_reducible apply putOutput_keeps (h.mono (by decide))
    | with_reducible apply enterSupplyShort_keeps (h.mono (by decide)) | extract_lets
    | with_reducible apply ite_keeps | split

theorem senseOpenLoad_keeps {Q : State → Prop} (h : Closed [.outputs, .handed, .offer] Q)
    (i : Nat) (reading : LineReading) (now : Nat) {s : State} (hs : Q s) : Q (senseOpenLoad i reading now s) := by
  unfold senseOpenLoad
  repeat' first
    | with_reducible assumption | with_reducible apply reportOutput_keeps (h.mono (by decide))
    | with_reducible apply putOutput_keeps (h.mono (by decide))
    | with_reducible apply enterSupplyShort_keeps (h.mono (by decide)) | extract_lets
    | with_reducible apply ite_keeps | split

theorem senseSupplyShort_keeps {Q : State → Prop} (h : Closed [.outputs, .handed, .offer] Q)
    (i : Nat) (reading : LineReading) (now : Nat) {s : State} (hs : Q s) : Q (senseSupplyShort i reading now s) := by
  unfold senseSupplyShort
  repeat' first
    | with_reducible assumption | with_reducible apply reportOutput_keeps (h.mono (by decide))
    | with_reducible apply putOutput_keeps (h.mono (by decide)) | extract_lets | with_reducible apply ite_keeps
    | split

theorem senseExpiry_keeps {Q : State → Prop} (h : Closed [.outputs, .handed, .offer] Q)
    (i : Nat) (reading : LineReading) {s : State} (hs : Q s) : Q (senseExpiry i reading s) := by
  unfold senseExpiry
  repeat' first
    | with_reducible assumption | with_reducible apply senseDriven_keeps (h.mono (by decide))
    | with_reducible apply senseOpenLoad_keeps (h.mono (by decide))
    | with_reducible apply senseSupplyShort_keeps (h.mono (by decide)) | extract_lets
    | with_reducible apply ite_keeps | split

theorem cutOutputs_keeps {Q : State → Prop} (h : Closed [.outputs] Q)
     {s : State} (hs : Q s) : Q (cutOutputs s) := by
  unfold cutOutputs
  repeat' first | with_reducible assumption | with_reducible apply State.setOutputs_keeps h (by decide)

theorem uncutOutputs_keeps {Q : State → Prop} (h : Closed [.outputs, .handed, .offer] Q)
     {s : State} (hs : Q s) : Q (uncutOutputs s) := by
  unfold uncutOutputs
  repeat' first
    | with_reducible assumption | (with_reducible apply forEach_keeps; intro _ _ _)
    | with_reducible apply putOutput_keeps (h.mono (by decide))

theorem applyOwner_keeps {Q : State → Prop} (h : Closed [.outputs, .handed, .offer] Q)
    (i : Nat) (w : Owner) {s : State} (hs : Q s) : Q (applyOwner i w s) := by
  unfold applyOwner
  repeat' first
    | with_reducible assumption | with_reducible apply putOutput_keeps (h.mono (by decide))
    | with_reducible apply hand_keeps (h.mono (by decide)) | extract_lets | with_reducible apply ite_keeps | split

theorem outputConfig_keeps {Q : State → Prop} (h : Closed [.outputs, .handed, .offer] Q)
    (i : Nat) (w : Owner) {s : State} (hs : Q s) : Q (outputConfig i w s).state := by
  unfold outputConfig
  repeat' first
    | with_reducible assumption | with_reducible apply ok_keeps
    | with_reducible apply applyOwner_keeps (h.mono (by decide)) | with_reducible apply refuse_keeps | split

theorem outputRead_keeps {Q : State → Prop}  {s : State} (hs : Q s) : Q (outputRead s).state := by
  unfold outputRead; first | exact hs | (repeat' first | exact hs | split)

theorem setForce_keeps {Q : State → Prop} (h : Closed [.outputs, .handed, .offer] Q)
    (i : Nat) (f : Option Bool) {s : State} (hs : Q s) : Q (setForce i f s) := by
  unfold setForce
  repeat' first | with_reducible assumption | with_reducible apply putOutput_keeps (h.mono (by decide))

theorem outputForce_keeps {Q : State → Prop} (h : Closed [.outputs, .handed, .offer] Q)
    (i : Nat) (on : Bool) {s : State} (hs : Q s) : Q (outputForce i on s).state := by
  unfold outputForce
  repeat' first
    | with_reducible assumption | with_reducible apply refuse_keeps | with_reducible apply ok_keeps
    | with_reducible apply setForce_keeps (h.mono (by decide)) | split

theorem outputForceRelease_keeps {Q : State → Prop} (h : Closed [.outputs, .handed, .offer] Q)
    (i : Nat) {s : State} (hs : Q s) : Q (outputForceRelease i s).state := by
  unfold outputForceRelease
  repeat' first
    | with_reducible assumption | with_reducible apply refuse_keeps | with_reducible apply ok_keeps
    | with_reducible apply setForce_keeps (h.mono (by decide)) | split

theorem liftOutputForce_keeps {Q : State → Prop} (h : Closed [.outputs, .handed, .offer] Q)
    (i : Nat) {s : State} (hs : Q s) : Q (liftOutputForce i s) := by
  unfold liftOutputForce
  repeat' first | with_reducible assumption | with_reducible apply setForce_keeps (h.mono (by decide)) | split

theorem outputServiceChange_keeps {Q : State → Prop} (h : Closed [.outputs, .handed, .offer] Q)
    (on : Bool) {s : State} (hs : Q s) : Q (outputServiceChange on s) := by
  unfold outputServiceChange
  repeat' first
    | with_reducible assumption | with_reducible apply State.setOutputs_keeps h (by decide)
    | (with_reducible apply forEach_keeps; intro _ _ _)
    | with_reducible apply liftOutputForce_keeps (h.mono (by decide)) | extract_lets
    | with_reducible apply ite_keeps | split

theorem outputRunEntry_keeps {Q : State → Prop} (h : Closed [.outputs, .handed, .offer] Q)
    (i : Nat) {s : State} (hs : Q s) : Q (outputRunEntry i s) := by
  unfold outputRunEntry
  repeat' first
    | with_reducible assumption | with_reducible apply reportOutput_keeps (h.mono (by decide))
    | with_reducible apply putOutput_keeps (h.mono (by decide)) | extract_lets | with_reducible apply ite_keeps
    | split

theorem outputSleepEntry_keeps {Q : State → Prop} (h : Closed [.outputs, .handed, .offer] Q)
    (i : Nat) {s : State} (hs : Q s) : Q (outputSleepEntry i s) := by
  unfold outputSleepEntry
  repeat' first
    | with_reducible assumption | with_reducible apply reportOutput_keeps (h.mono (by decide))
    | with_reducible apply putOutput_keeps (h.mono (by decide)) | extract_lets | with_reducible apply ite_keeps
    | split

theorem setCounters_keeps {Q : State → Prop} (h : Closed [.distance] Q)
    (c : Counters) {s : State} (hs : Q s) : Q (setCounters c s) := by
  unfold setCounters
  repeat' first | with_reducible assumption | with_reducible apply State.setDistance_keeps h (by decide)

theorem writeServiceSignal_keeps {Q : State → Prop} (h : Closed [.write] Q)
     {s : State} (hs : Q s) : Q (writeServiceSignal s) := by
  unfold writeServiceSignal
  repeat' first
    | with_reducible assumption | with_reducible apply writeFresh_keeps (h.mono (by decide))
    | with_reducible apply declareFailure_keeps (h.mono (by decide)) | split

theorem advanceTenth_keeps {Q : State → Prop} (h : Closed [.distance, .enqueue, .write] Q)
     {s : State} (hs : Q s) : Q (advanceTenth s) := by
  unfold advanceTenth
  repeat' first
    | with_reducible assumption | with_reducible apply touch_keeps (h.mono (by decide))
    | with_reducible apply setCounters_keeps (h.mono (by decide))
    | with_reducible apply writeServiceSignal_keeps (h.mono (by decide))
    | with_reducible apply enqueue_keeps (h.mono (by decide)) | extract_lets | with_reducible apply ite_keeps
    | split

theorem advanceTenths_keeps {Q : State → Prop} (h : Closed [.distance, .enqueue, .write] Q) (n : Nat) {s : State}
    (hs : Q s) :
    Q (advanceTenths n s) := by
  induction n generalizing s with
  | zero => exact hs
  | succ n ih => exact ih (advanceTenth_keeps h hs)

theorem distanceHandoff_keeps {Q : State → Prop} (h : Closed [.distance, .enqueue, .serve, .write] Q)
    (n : Nat) {s : State} (hs : Q s) : Q (distanceHandoff n s) := by
  unfold distanceHandoff
  repeat' first
    | with_reducible assumption | with_reducible apply State.setDistance_keeps h (by decide)
    | with_reducible apply serve_keeps (h.mono (by decide))
    | with_reducible apply advanceTenths_keeps (h.mono (by decide)) | extract_lets

theorem clearRemainder_keeps {Q : State → Prop} (h : Closed [.distance] Q)
     {s : State} (hs : Q s) : Q (clearRemainder s) := by
  unfold clearRemainder
  repeat' first | with_reducible assumption | with_reducible apply State.setDistance_keeps h (by decide)

theorem odometerSet_keeps {Q : State → Prop} (h : Closed [.distance, .handed, .enqueue, .serve] Q)
    (v : Nat) {s : State} (hs : Q s) : Q (odometerSet v s).state := by
  unfold odometerSet
  repeat' first
    | with_reducible assumption | with_reducible apply State.setDistance_keeps h (by decide)
    | with_reducible apply refuse_keeps | with_reducible apply reportFault_keeps (h.mono (by decide))
    | with_reducible apply ok_keeps | with_reducible apply serve_keeps (h.mono (by decide))
    | with_reducible apply enqueue_keeps (h.mono (by decide)) | extract_lets | with_reducible apply ite_keeps
    | split

theorem tripReset_keeps {Q : State → Prop} (h : Closed [.distance, .enqueue, .serve] Q)
    (t : Trip) {s : State} (hs : Q s) : Q (tripReset t s).state := by
  unfold tripReset
  repeat' first
    | with_reducible assumption | with_reducible apply ok_keeps
    | with_reducible apply serve_keeps (h.mono (by decide))
    | with_reducible apply enqueue_keeps (h.mono (by decide))
    | with_reducible apply setCounters_keeps (h.mono (by decide)) | extract_lets | split

theorem serviceIntervalSet_keeps {Q : State → Prop} (h : Closed [.distance, .enqueue, .serve, .write] Q)
    (km : Int) {s : State} (hs : Q s) : Q (serviceIntervalSet km s).state := by
  unfold serviceIntervalSet
  repeat' first
    | with_reducible assumption | with_reducible apply setCounters_keeps (h.mono (by decide))
    | with_reducible apply writeServiceSignal_keeps (h.mono (by decide)) | with_reducible apply okAdjusted_keeps
    | with_reducible apply serve_keeps (h.mono (by decide))
    | with_reducible apply enqueue_keeps (h.mono (by decide)) | extract_lets | with_reducible apply ite_keeps
    | split

theorem serviceDistanceRefresh_keeps {Q : State → Prop} (h : Closed [.write] Q)
     {s : State} (hs : Q s) : Q (serviceDistanceRefresh s) := by
  unfold serviceDistanceRefresh
  repeat' first
    | with_reducible assumption | with_reducible apply writeServiceSignal_keeps (h.mono (by decide)) | split

theorem hoursUp_keeps {Q : State → Prop} (h : Closed [.distance, .enqueue, .serve] Q)
     {s : State} (hs : Q s) : Q (hoursUp s) := by
  unfold hoursUp
  repeat' first
    | with_reducible assumption | with_reducible apply State.setDistance_keeps h (by decide)
    | with_reducible apply serve_keeps (h.mono (by decide))
    | with_reducible apply enqueue_keeps (h.mono (by decide))

theorem hoursTick_keeps {Q : State → Prop} (h : Closed [.distance, .enqueue, .serve] Q)
     {s : State} (hs : Q s) : Q (hoursTick s) := by
  unfold hoursTick
  repeat' first
    | with_reducible assumption | with_reducible apply State.setDistance_keeps h (by decide)
    | with_reducible apply hoursUp_keeps (h.mono (by decide)) | split

theorem hoursTenth_keeps {Q : State → Prop} (h : Closed [.distance, .enqueue, .serve] Q)
     {s : State} (hs : Q s) : Q (hoursTenth s) := by
  unfold hoursTenth
  repeat' first | with_reducible assumption | with_reducible apply hoursUp_keeps (h.mono (by decide)) | split

theorem distanceRead_keeps {Q : State → Prop}  {s : State} (hs : Q s) : Q (distanceRead s).state := by
  unfold distanceRead; first | exact hs | (repeat' first | exact hs | split)

theorem distanceRunEntry_keeps {Q : State → Prop} (h : Closed [.distance, .gate] Q)
     {s : State} (hs : Q s) : Q (distanceRunEntry s) := by
  unfold distanceRunEntry
  repeat' first
    | with_reducible assumption | with_reducible apply State.setDistance_keeps h (by decide)
    | with_reducible apply judgeGate_keeps (h.mono (by decide))

theorem distanceSleepEntry_keeps {Q : State → Prop} (h : Closed [.distance] Q)
     {s : State} (hs : Q s) : Q (distanceSleepEntry s) := by
  unfold distanceSleepEntry
  repeat' first | with_reducible assumption | with_reducible apply State.setDistance_keeps h (by decide)

theorem putChan_keeps {Q : State → Prop} (h : Closed [.pulse] Q)
    (i : Nat) (c : PulseChan) {s : State} (hs : Q s) : Q (putChan i c s) := by
  unfold putChan
  repeat' first | with_reducible assumption | with_reducible apply State.setPulse_keeps h (by decide)

theorem countEdge_keeps {Q : State → Prop} (h : Closed [.pulse, .handed] Q)
    (i : Nat) (te : Nat) {s : State} (hs : Q s) : Q (countEdge i te s) := by
  unfold countEdge
  repeat' first
    | with_reducible assumption | with_reducible apply putChan_keeps (h.mono (by decide))
    | with_reducible apply reportFault_keeps (h.mono (by decide)) | extract_lets | with_reducible apply ite_keeps
    | split

theorem qualify_keeps {Q : State → Prop} (h : Closed [.pulse, .handed] Q)
    (i : Nat) (te : Nat) {s : State} (hs : Q s) : Q (qualify i te s) := by
  unfold qualify
  repeat' first
    | with_reducible assumption | with_reducible apply putChan_keeps (h.mono (by decide))
    | with_reducible apply countEdge_keeps (h.mono (by decide)) | extract_lets | with_reducible apply ite_keeps
    | split

theorem pulseTransition_keeps {Q : State → Prop} (h : Closed [.pulse, .handed] Q)
    (i : Nat) (high : Bool) (t : Nat) {s : State} (hs : Q s) : Q (pulseTransition i high t s) := by
  unfold pulseTransition
  repeat' first
    | with_reducible assumption | with_reducible apply putChan_keeps (h.mono (by decide))
    | with_reducible apply qualify_keeps (h.mono (by decide)) | extract_lets | with_reducible apply ite_keeps
    | split

theorem qualificationExpiry_keeps {Q : State → Prop} (h : Closed [.pulse, .handed, .clock] Q)
    (i : Nat) {s : State} (hs : Q s) : Q (qualificationExpiry i s) := by
  unfold qualificationExpiry
  repeat' first
    | with_reducible assumption | with_reducible apply qualify_keeps (h.mono (by decide))
    | with_reducible apply advance_keeps (h.mono (by decide)) | extract_lets | with_reducible apply ite_keeps
    | split

theorem writeEngineRunning_keeps {Q : State → Prop} (h : Closed [.write] Q)
     {s : State} (hs : Q s) : Q (writeEngineRunning s) := by
  unfold writeEngineRunning
  repeat' first
    | with_reducible assumption | with_reducible apply writeFresh_keeps (h.mono (by decide)) | extract_lets
    | with_reducible apply ite_keeps | split

theorem handEvaluation_keeps {Q : State → Prop} (h : Closed [.handed] Q)
    (n : Nat) (wrote : Bool) {s : State} (hs : Q s) : Q (handEvaluation n wrote s) := by
  unfold handEvaluation
  repeat' first
    | with_reducible assumption | with_reducible apply hand_keeps (h.mono (by decide)) | extract_lets
    | with_reducible apply ite_keeps | split

theorem windowExpiry_keeps {Q : State → Prop} (h : Closed [.pulse, .handed, .write] Q)
    (i : Nat) {s : State} (hs : Q s) : Q (windowExpiry i s) := by
  unfold windowExpiry
  repeat' first
    | with_reducible assumption | with_reducible apply putChan_keeps (h.mono (by decide))
    | with_reducible apply writeFreshWith_keeps (h.mono (by decide))
    | with_reducible apply handEvaluation_keeps (h.mono (by decide))
    | with_reducible apply writeEngineRunning_keeps (h.mono (by decide)) | extract_lets
    | with_reducible apply ite_keeps | split

theorem biasCheck_keeps {Q : State → Prop} (h : Closed [.pulse, .handed, .write] Q)
    (i : Nat) (band : Band) {s : State} (hs : Q s) : Q (biasCheck i band s) := by
  unfold biasCheck
  repeat' first
    | with_reducible assumption | with_reducible apply putChan_keeps (h.mono (by decide))
    | with_reducible apply reportFault_keeps (h.mono (by decide))
    | with_reducible apply declareLoss_keeps (h.mono (by decide)) | extract_lets | with_reducible apply ite_keeps
    | split

theorem turnOffChan_keeps {Q : State → Prop} (h : Closed [.pulse, .handed, .write] Q)
    (i : Nat) {s : State} (hs : Q s) : Q (turnOffChan i s) := by
  unfold turnOffChan
  repeat' first
    | with_reducible assumption | with_reducible apply reportFault_keeps (h.mono (by decide))
    | with_reducible apply declareFailure_keeps (h.mono (by decide))
    | with_reducible apply putChan_keeps (h.mono (by decide))
    | with_reducible apply writeFresh_keeps (h.mono (by decide)) | extract_lets | with_reducible apply ite_keeps
    | split

theorem applyPulseConfig_keeps {Q : State → Prop} (h : Closed [.pulse, .distance, .handed, .write] Q)
    (i : Nat) (c : PulseCfg) {s : State} (hs : Q s) : Q (applyPulseConfig i c s) := by
  unfold applyPulseConfig
  repeat' first
    | with_reducible assumption | with_reducible apply clearRemainder_keeps (h.mono (by decide))
    | with_reducible apply putChan_keeps (h.mono (by decide))
    | with_reducible apply turnOffChan_keeps (h.mono (by decide))
    | with_reducible apply declareLoss_keeps (h.mono (by decide)) | extract_lets | with_reducible apply ite_keeps
    | split

theorem pulseConfig_keeps {Q : State → Prop} (h : Closed [.pulse, .distance, .handed, .write] Q)
    (i : Nat) (c : PulseCfg) {s : State} (hs : Q s) : Q (pulseConfig i c s).state := by
  unfold pulseConfig
  repeat' first
    | with_reducible assumption | with_reducible apply okAdjusted_keeps
    | with_reducible apply applyPulseConfig_keeps (h.mono (by decide)) | with_reducible apply refuse_keeps | split

theorem pulseLogRead_keeps {Q : State → Prop} (h : Closed [.pulse] Q)
    (i : Nat) {s : State} (hs : Q s) : Q (pulseLogRead i s).state := by
  unfold pulseLogRead
  repeat' first
    | with_reducible assumption | with_reducible apply refuse_keeps | with_reducible apply ok_keeps
    | with_reducible apply putChan_keeps (h.mono (by decide)) | extract_lets | with_reducible apply ite_keeps
    | split

theorem retarget_keeps {Q : State → Prop} (h : Closed [.repeater] Q)
     {s : State} (hs : Q s) : Q (retarget s) := by
  unfold retarget
  repeat' first | with_reducible assumption | with_reducible apply State.setRepeater_keeps h (by decide)

theorem repeaterConfig_keeps {Q : State → Prop} (h : Closed [.repeater] Q)
    (k : Nat) {s : State} (hs : Q s) : Q (repeaterConfig k s).state := by
  unfold repeaterConfig
  repeat' first
    | with_reducible assumption | with_reducible apply State.setRepeater_keeps h (by decide)
    | with_reducible apply okAdjusted_keeps | with_reducible apply retarget_keeps (h.mono (by decide))

theorem pulseRunEntry_keeps {Q : State → Prop} (h : Closed [.pulse, .repeater, .write] Q)
     {s : State} (hs : Q s) : Q (pulseRunEntry s) := by
  unfold pulseRunEntry
  repeat' first
    | with_reducible assumption | with_reducible apply State.setPulse_keeps h (by decide)
    | with_reducible apply State.setRepeater_keeps h (by decide)
    | with_reducible apply writeFresh_keeps (h.mono (by decide)) | extract_lets | with_reducible apply ite_keeps
    | split

theorem pulseSleepEntry_keeps {Q : State → Prop} (h : Closed [.pulse, .handed] Q)
    (i : Nat) {s : State} (hs : Q s) : Q (pulseSleepEntry i s) := by
  unfold pulseSleepEntry
  repeat' first
    | with_reducible assumption | with_reducible apply reportFault_keeps (h.mono (by decide))
    | with_reducible apply putChan_keeps (h.mono (by decide)) | extract_lets | with_reducible apply ite_keeps
    | split

theorem repeaterSleepEntry_keeps {Q : State → Prop} (h : Closed [.repeater] Q)
     {s : State} (hs : Q s) : Q (repeaterSleepEntry s) := by
  unfold repeaterSleepEntry
  repeat' first | with_reducible assumption | with_reducible apply State.setRepeater_keeps h (by decide)

theorem reportWiringEnd_keeps {Q : State → Prop} (h : Closed [.handed] Q)
    (c : FaultClass) (i : Nat) (w : Wiring) {s : State} (hs : Q s) : Q (reportWiringEnd c i w s) := by
  unfold reportWiringEnd
  repeat' first | with_reducible assumption | with_reducible apply reportFault_keeps (h.mono (by decide)) | split

theorem putSender_keeps {Q : State → Prop} (h : Closed [.senders] Q)
    (i : Nat) (c : Sender) {s : State} (hs : Q s) : Q (putSender i c s) := by
  unfold putSender
  repeat' first | with_reducible assumption | with_reducible apply State.setSenders_keeps h (by decide)

theorem senderWrite_keeps {Q : State → Prop} (h : Closed [.senders, .write] Q)
    (i : Nat) (raw : Nat) {s : State} (hs : Q s) : Q (senderWrite i raw s) := by
  unfold senderWrite
  repeat' first
    | with_reducible assumption | with_reducible apply writeFreshWith_keeps (h.mono (by decide))
    | with_reducible apply putSender_keeps (h.mono (by decide)) | extract_lets

theorem senderClean_keeps {Q : State → Prop} (h : Closed [.senders, .handed, .write] Q)
    (i : Nat) (raw : Nat) (w : Wiring) {s : State} (hs : Q s) : Q (senderClean i raw w s) := by
  unfold senderClean
  repeat' first
    | with_reducible assumption | with_reducible apply senderWrite_keeps (h.mono (by decide))
    | with_reducible apply reportFault_keeps (h.mono (by decide))
    | with_reducible apply putSender_keeps (h.mono (by decide)) | extract_lets | with_reducible apply ite_keeps
    | split

theorem senderOutside_keeps {Q : State → Prop} (h : Closed [.senders, .handed, .write] Q)
    (i : Nat) (w : Wiring) {s : State} (hs : Q s) : Q (senderOutside i w s) := by
  unfold senderOutside
  repeat' first
    | with_reducible assumption | with_reducible apply putSender_keeps (h.mono (by decide))
    | with_reducible apply declareLoss_keeps (h.mono (by decide))
    | with_reducible apply reportFault_keeps (h.mono (by decide)) | extract_lets | with_reducible apply ite_keeps
    | split

theorem senderSample_keeps {Q : State → Prop} (h : Closed [.senders, .handed, .write] Q)
    (i raw : Nat) {s : State} (hs : Q s) : Q (senderSample i raw s) := by
  unfold senderSample; dsimp only; split
  · exact hs
  · split
    · exact senderClean_keeps (h.mono (by decide)) _ _ _ hs
    all_goals exact senderOutside_keeps (h.mono (by decide)) _ _ hs

theorem senderUnderVoltage_keeps {Q : State → Prop} (h : Closed [.senders, .write] Q)
    (i : Nat) {s : State} (hs : Q s) : Q (senderUnderVoltage i s) := by
  unfold senderUnderVoltage
  repeat' first
    | with_reducible assumption | with_reducible apply putSender_keeps (h.mono (by decide))
    | with_reducible apply declareLoss_keeps (h.mono (by decide)) | extract_lets | with_reducible apply ite_keeps
    | split

theorem applySenderConfig_keeps {Q : State → Prop} (h : Closed [.senders, .handed, .write] Q)
    (i : Nat) (c : SenderCfg) {s : State} (hs : Q s) : Q (applySenderConfig i c s) := by
  unfold applySenderConfig
  repeat' first
    | with_reducible assumption | with_reducible apply putSender_keeps (h.mono (by decide))
    | with_reducible apply declareFailure_keeps (h.mono (by decide))
    | with_reducible apply reportWiringEnd_keeps (h.mono (by decide)) | extract_lets
    | with_reducible apply ite_keeps | split

theorem senderConfig_keeps {Q : State → Prop} (h : Closed [.senders, .handed, .write] Q)
    (i : Nat) (c : SenderCfg) {s : State} (hs : Q s) : Q (senderConfig i c s).state := by
  unfold senderConfig
  repeat' first
    | with_reducible assumption | with_reducible apply okAdjusted_keeps
    | with_reducible apply applySenderConfig_keeps (h.mono (by decide)) | with_reducible apply refuse_keeps | split

theorem sendersRunEntry_keeps {Q : State → Prop} (h : Closed [.senders] Q)
     {s : State} (hs : Q s) : Q (sendersRunEntry s) := by
  unfold sendersRunEntry
  repeat' first | with_reducible assumption | with_reducible apply State.setSenders_keeps h (by decide)

theorem senderSleepEntry_keeps {Q : State → Prop} (h : Closed [.senders, .handed] Q)
    (i : Nat) {s : State} (hs : Q s) : Q (senderSleepEntry i s) := by
  unfold senderSleepEntry
  repeat' first
    | with_reducible assumption | with_reducible apply putSender_keeps (h.mono (by decide))
    | with_reducible apply reportWiringEnd_keeps (h.mono (by decide)) | extract_lets

theorem putSwitch_keeps {Q : State → Prop} (h : Closed [.switches] Q)
    (k : Nat) (c : SwitchIn) {s : State} (hs : Q s) : Q (putSwitch k c s) := by
  unfold putSwitch
  repeat' first | with_reducible assumption | with_reducible apply State.setSwitches_keeps h (by decide)

theorem switchWrite_keeps {Q : State → Prop} (h : Closed [.switches, .write] Q)
    (k : Nat) (a : Bool) {s : State} (hs : Q s) : Q (switchWrite k a s) := by
  unfold switchWrite
  repeat' first
    | with_reducible assumption | with_reducible apply writeFresh_keeps (h.mono (by decide))
    | with_reducible apply putSwitch_keeps (h.mono (by decide))

theorem debounce_keeps {Q : State → Prop} (h : Closed [.switches, .write] Q)
    (k : Nat) (a : Bool) {s : State} (hs : Q s) : Q (debounce k a s) := by
  unfold debounce
  repeat' first
    | with_reducible assumption | with_reducible apply switchWrite_keeps (h.mono (by decide))
    | with_reducible apply putSwitch_keeps (h.mono (by decide)) | extract_lets | with_reducible apply ite_keeps
    | split

theorem debounceAfresh_keeps {Q : State → Prop} (h : Closed [.switches] Q)
    (k : Nat) (a : Bool) {s : State} (hs : Q s) : Q (debounceAfresh k a s) := by
  unfold debounceAfresh
  repeat' first | with_reducible assumption | with_reducible apply putSwitch_keeps (h.mono (by decide))

theorem notifyWiring_keeps {Q : State → Prop} (h : Closed [.handed] Q)
    (k : Nat) {s : State} (hs : Q s) : Q (notifyWiring k s) := by
  unfold notifyWiring
  repeat' first
    | with_reducible assumption | (with_reducible apply foldl_keeps; intro _ _ _)
    | with_reducible apply hand_keeps (h.mono (by decide)) | split

theorem codedWithin_keeps {Q : State → Prop} (h : Closed [.switches, .handed, .write] Q)
    (k : Nat) (raw : Nat) (w : Wiring) {s : State} (hs : Q s) : Q (codedWithin k raw w s) := by
  unfold codedWithin
  repeat' first
    | with_reducible assumption | with_reducible apply putSwitch_keeps (h.mono (by decide))
    | with_reducible apply debounce_keeps (h.mono (by decide))
    | with_reducible apply debounceAfresh_keeps (h.mono (by decide))
    | with_reducible apply reportWiringEnd_keeps (h.mono (by decide)) | extract_lets
    | with_reducible apply ite_keeps | split

theorem codedOutside_keeps {Q : State → Prop} (h : Closed [.switches, .handed, .write] Q)
    (k : Nat) (w : Wiring) {s : State} (hs : Q s) : Q (codedOutside k w s) := by
  unfold codedOutside
  repeat' first
    | with_reducible assumption | with_reducible apply declareLoss_keeps (h.mono (by decide))
    | with_reducible apply putSwitch_keeps (h.mono (by decide))
    | with_reducible apply notifyWiring_keeps (h.mono (by decide))
    | with_reducible apply reportFault_keeps (h.mono (by decide)) | extract_lets | with_reducible apply ite_keeps
    | split

theorem switchSample_keeps {Q : State → Prop} (h : Closed [.switches, .handed, .write] Q)
    (k : Nat) (high : Bool) (raw : Nat) {s : State} (hs : Q s) : Q (switchSample k high raw s) := by
  unfold switchSample; dsimp only; split
  · exact hs
  · split
    · exact debounce_keeps (h.mono (by decide)) _ _ hs
    · split
      · exact codedWithin_keeps (h.mono (by decide)) _ _ _ hs
      all_goals exact codedOutside_keeps (h.mono (by decide)) _ _ hs

theorem switchRefresh_keeps {Q : State → Prop} (h : Closed [.write] Q)
    (k : Nat) {s : State} (hs : Q s) : Q (switchRefresh k s) := by
  unfold switchRefresh
  repeat' first
    | with_reducible assumption | with_reducible apply writeFresh_keeps (h.mono (by decide)) | extract_lets
    | with_reducible apply ite_keeps | split

theorem takeRole_keeps {Q : State → Prop} (h : Closed [.switches] Q)
    (k : Nat) (r : Role) {s : State} (hs : Q s) : Q (takeRole k r s) := by
  unfold takeRole
  repeat' first | with_reducible assumption | with_reducible apply State.setSwitches_keeps h (by decide) | split

theorem restartSwitch_keeps {Q : State → Prop} (h : Closed [.switches, .handed, .write] Q)
    (k : Nat) {s : State} (hs : Q s) : Q (restartSwitch k s) := by
  unfold restartSwitch
  repeat' first
    | with_reducible assumption | with_reducible apply declareLoss_keeps (h.mono (by decide))
    | with_reducible apply reportWiringEnd_keeps (h.mono (by decide))
    | with_reducible apply putSwitch_keeps (h.mono (by decide)) | extract_lets

theorem applySwitchConfig_keeps {Q : State → Prop} (h : Closed [.switches, .handed, .write] Q)
    (k : Nat) (c : SwitchCfg) {s : State} (hs : Q s) : Q (applySwitchConfig k c s) := by
  unfold applySwitchConfig
  repeat' first
    | with_reducible assumption | with_reducible apply takeRole_keeps (h.mono (by decide))
    | with_reducible apply putSwitch_keeps (h.mono (by decide))
    | with_reducible apply liftForce_keeps (h.mono (by decide))
    | with_reducible apply restartSwitch_keeps (h.mono (by decide)) | extract_lets | with_reducible apply ite_keeps
    | split

theorem switchesRunEntry_keeps {Q : State → Prop} (h : Closed [.switches] Q)
     {s : State} (hs : Q s) : Q (switchesRunEntry s) := by
  unfold switchesRunEntry
  repeat' first | with_reducible assumption | with_reducible apply State.setSwitches_keeps h (by decide)

theorem switchSleepEntry_keeps {Q : State → Prop} (h : Closed [.switches, .handed] Q)
    (k : Nat) {s : State} (hs : Q s) : Q (switchSleepEntry k s) := by
  unfold switchSleepEntry
  repeat' first
    | with_reducible assumption | with_reducible apply putSwitch_keeps (h.mono (by decide))
    | with_reducible apply reportWiringEnd_keeps (h.mono (by decide)) | extract_lets

theorem putDoor_keeps {Q : State → Prop} (h : Closed [.doors] Q)
    (d : Nat) (x : Door) {s : State} (hs : Q s) : Q (putDoor d x s) := by
  unfold putDoor
  repeat' first | with_reducible assumption | with_reducible apply State.setDoors_keeps h (by decide)

theorem reportMarkEnd_keeps {Q : State → Prop} (h : Closed [.handed] Q)
    (d : Nat) (y : Symptom) (before : Bool) (after : Bool) {s : State} (hs : Q s) : Q (reportMarkEnd d y before
        after s) := by
  unfold reportMarkEnd
  repeat' first | with_reducible assumption | with_reducible apply reportFault_keeps (h.mono (by decide)) | split

theorem deriveDoor_keeps {Q : State → Prop} (h : Closed [.doors, .handed, .enqueue, .offer, .write] Q)
    (d : Nat) {s : State} (hs : Q s) : Q (deriveDoor d s) := by
  unfold deriveDoor
  repeat' first
    | with_reducible assumption | with_reducible apply putDoor_keeps (h.mono (by decide))
    | with_reducible apply reportMarkEnd_keeps (h.mono (by decide))
    | with_reducible apply enqueue_keeps (h.mono (by decide))
    | with_reducible apply touch_keeps (h.mono (by decide))
    | with_reducible apply writeFresh_keeps (h.mono (by decide))
    | with_reducible apply offer_keeps (h.mono (by decide)) | extract_lets | with_reducible apply ite_keeps | split

theorem offerShared_keeps {Q : State → Prop} (h : Closed [.offer] Q)
     {s : State} (hs : Q s) : Q (offerShared s) := by
  unfold offerShared
  repeat' first | with_reducible assumption | with_reducible apply offer_keeps (h.mono (by decide))

theorem writeInterlockSignal_keeps {Q : State → Prop} (h : Closed [.write] Q)
     {s : State} (hs : Q s) : Q (writeInterlockSignal s) := by
  unfold writeInterlockSignal
  repeat' first
    | with_reducible assumption | with_reducible apply declareFailure_keeps (h.mono (by decide))
    | with_reducible apply writeFresh_keeps (h.mono (by decide)) | split

theorem decideInterlock_keeps {Q : State → Prop} (h : Closed [.doors, .offer, .request, .write] Q)
     {s : State} (hs : Q s) : Q (decideInterlock s) := by
  unfold decideInterlock
  repeat' first
    | with_reducible assumption | with_reducible apply State.setDoors_keeps h (by decide)
    | with_reducible apply offerShared_keeps (h.mono (by decide))
    | with_reducible apply writeInterlockSignal_keeps (h.mono (by decide))
    | with_reducible apply handRequests_keeps (h.mono (by decide)) | extract_lets | with_reducible apply ite_keeps
    | split

theorem setPermission_keeps {Q : State → Prop} (h : Closed [.doors, .offer, .request, .write] Q)
    (want : Bool) {s : State} (hs : Q s) : Q (setPermission want s) := by
  unfold setPermission
  repeat' first
    | with_reducible assumption | with_reducible apply State.setDoors_keeps h (by decide)
    | with_reducible apply offerShared_keeps (h.mono (by decide))
    | with_reducible apply handRequests_keeps (h.mono (by decide))
    | with_reducible apply writeFresh_keeps (h.mono (by decide)) | split

theorem decidePermission_keeps {Q : State → Prop} (h : Closed [.doors, .offer, .request, .write] Q)
     {s : State} (hs : Q s) : Q (decidePermission s) := by
  unfold decidePermission
  repeat' first
    | with_reducible assumption | with_reducible apply State.setDoors_keeps h (by decide)
    | with_reducible apply setPermission_keeps (h.mono (by decide))

theorem judgeInterlockFault_keeps {Q : State → Prop} (h : Closed [.doors, .offer, .write] Q)
     {s : State} (hs : Q s) : Q (judgeInterlockFault s) := by
  unfold judgeInterlockFault
  repeat' first
    | with_reducible assumption | with_reducible apply State.setDoors_keeps h (by decide)
    | with_reducible apply offerShared_keeps (h.mono (by decide))
    | with_reducible apply writeInterlockSignal_keeps (h.mono (by decide)) | extract_lets
    | with_reducible apply ite_keeps | split

theorem setRun_keeps {Q : State → Prop} (h : Closed [.doors] Q)
    (r : SecuredRun) {s : State} (hs : Q s) : Q (setRun r s) := by
  unfold setRun
  repeat' first | with_reducible assumption | with_reducible apply State.setDoors_keeps h (by decide)

theorem setStop_keeps {Q : State → Prop} (h : Closed [.doors, .offer, .request, .write] Q)
    (r : StopRecord) {s : State} (hs : Q s) : Q (setStop r s) := by
  unfold setStop
  repeat' first
    | with_reducible assumption | with_reducible apply State.setDoors_keeps h (by decide)
    | with_reducible apply offer_keeps (h.mono (by decide))
    | with_reducible apply handRequests_keeps (h.mono (by decide))
    | with_reducible apply writeFresh_keeps (h.mono (by decide))

theorem clearStop_keeps {Q : State → Prop} (h : Closed [.doors, .handed, .offer, .request, .write] Q)
     {s : State} (hs : Q s) : Q (clearStop s) := by
  unfold clearStop
  repeat' first
    | with_reducible assumption | with_reducible apply hand_keeps (h.mono (by decide))
    | with_reducible apply setStop_keeps (h.mono (by decide)) | split

theorem raiseStop_keeps {Q : State → Prop} (h : Closed [.doors, .handed, .offer, .request, .write] Q)
    (r : StopRecord) (pattern : Option Nat) {s : State} (hs : Q s) : Q (raiseStop r pattern s) := by
  unfold raiseStop
  repeat' first
    | with_reducible assumption | with_reducible apply setStop_keeps (h.mono (by decide))
    | with_reducible apply hand_keeps (h.mono (by decide)) | extract_lets | split

theorem stopEdge_keeps {Q : State → Prop} (h : Closed [.doors, .handed, .offer, .request, .write] Q)
    (assist : Bool) {s : State} (hs : Q s) : Q (stopEdge assist s) := by
  unfold stopEdge
  repeat' first | with_reducible assumption | with_reducible apply raiseStop_keeps (h.mono (by decide)) | split

theorem followDerivation_keeps {Q : State → Prop} (h : Closed [.doors, .handed, .offer, .request, .write] Q)
    (opened : Bool) {s : State} (hs : Q s) : Q (followDerivation opened s) := by
  unfold followDerivation
  repeat' first
    | with_reducible assumption | with_reducible apply writeFresh_keeps (h.mono (by decide))
    | with_reducible apply decideInterlock_keeps (h.mono (by decide))
    | with_reducible apply setRun_keeps (h.mono (by decide))
    | with_reducible apply clearStop_keeps (h.mono (by decide)) | extract_lets | with_reducible apply ite_keeps
    | split

theorem derive_keeps {Q : State → Prop} (h : Closed [.doors, .handed, .enqueue, .serve, .offer, .request, .write] Q)
    (d : Nat) {s : State} (hs : Q s) : Q (derive d s) := by
  unfold derive
  repeat' first
    | with_reducible assumption | with_reducible apply deriveDoor_keeps (h.mono (by decide))
    | with_reducible apply serve_keeps (h.mono (by decide))
    | with_reducible apply followDerivation_keeps (h.mono (by decide)) | extract_lets

theorem flagInput_keeps {Q : State → Prop} (h : Closed [.write] Q)
    (k : Option Nat) {s : State} (hs : Q s) : Q (flagInput k s) := by
  unfold flagInput
  repeat' first | with_reducible assumption | with_reducible apply setFlags_keeps (h.mono (by decide)) | split

theorem implausibilityExpiry_keeps {Q : State → Prop} (h : Closed [.doors, .handed, .enqueue, .serve, .offer,
    .request, .write] Q)
    (d : Nat) {s : State} (hs : Q s) : Q (implausibilityExpiry d s) := by
  unfold implausibilityExpiry
  repeat' first
    | with_reducible assumption | with_reducible apply reportFault_keeps (h.mono (by decide))
    | with_reducible apply putDoor_keeps (h.mono (by decide))
    | with_reducible apply derive_keeps (h.mono (by decide))
    | with_reducible apply flagInput_keeps (h.mono (by decide))
    | with_reducible apply setFlags_keeps (h.mono (by decide)) | extract_lets | with_reducible apply ite_keeps
    | split

theorem travelExpiry_keeps {Q : State → Prop} (h : Closed [.doors, .handed, .enqueue, .serve, .offer, .request,
    .write] Q)
    (d : Nat) {s : State} (hs : Q s) : Q (travelExpiry d s) := by
  unfold travelExpiry
  repeat' first
    | with_reducible assumption | with_reducible apply reportFault_keeps (h.mono (by decide))
    | with_reducible apply putDoor_keeps (h.mono (by decide))
    | with_reducible apply derive_keeps (h.mono (by decide))
    | with_reducible apply setFlags_keeps (h.mono (by decide)) | extract_lets | with_reducible apply ite_keeps
    | split

theorem doorWiringFault_keeps {Q : State → Prop} (h : Closed [.write] Q)
    (d : Nat) {s : State} (hs : Q s) : Q (doorWiringFault d s) := by
  unfold doorWiringFault
  repeat' first | with_reducible assumption | with_reducible apply setFlags_keeps (h.mono (by decide))

theorem securedRunComplete_keeps {Q : State → Prop} (h : Closed [.doors, .offer, .request, .write] Q)
     {s : State} (hs : Q s) : Q (securedRunComplete s) := by
  unfold securedRunComplete
  repeat' first
    | with_reducible assumption | with_reducible apply decideInterlock_keeps (h.mono (by decide))
    | with_reducible apply setRun_keeps (h.mono (by decide)) | split

theorem doorRefresh_keeps {Q : State → Prop} (h : Closed [.write] Q)
     {s : State} (hs : Q s) : Q (doorRefresh s) := by
  unfold doorRefresh
  repeat' first
    | with_reducible assumption | (with_reducible apply forEach_keeps; intro _ _ _)
    | with_reducible apply writeFresh_keeps (h.mono (by decide))
    | with_reducible apply writeInterlockSignal_keeps (h.mono (by decide)) | extract_lets
    | with_reducible apply ite_keeps | split

theorem liftDoorForces_keeps {Q : State → Prop} (h : Closed [.write] Q)
    (c : DoorCfg) {s : State} (hs : Q s) : Q (liftDoorForces c s) := by
  unfold liftDoorForces
  repeat' first
    | with_reducible assumption | (with_reducible apply foldl_keeps; intro _ _ _)
    | with_reducible apply liftForce_keeps (h.mono (by decide))

theorem reportDoorEnd_keeps {Q : State → Prop} (h : Closed [.handed] Q)
    (d : Nat) (x : Door) {s : State} (hs : Q s) : Q (reportDoorEnd d x s) := by
  unfold reportDoorEnd
  repeat' first | with_reducible assumption | with_reducible apply reportMarkEnd_keeps (h.mono (by decide))

theorem applyDoorConfig_keeps {Q : State → Prop} (h : Closed [.doors, .handed, .enqueue, .serve, .offer, .request,
    .write] Q)
    (d : Nat) (c : DoorCfg) {s : State} (hs : Q s) : Q (applyDoorConfig d c s) := by
  unfold applyDoorConfig
  repeat' first
    | with_reducible assumption | with_reducible apply derive_keeps (h.mono (by decide))
    | with_reducible apply liftDoorForces_keeps (h.mono (by decide))
    | with_reducible apply reportDoorEnd_keeps (h.mono (by decide))
    | with_reducible apply putDoor_keeps (h.mono (by decide)) | extract_lets | with_reducible apply ite_keeps
    | split

theorem doorConfig_keeps {Q : State → Prop} (h : Closed [.doors, .handed, .enqueue, .serve, .offer, .request,
    .write] Q)
    (d : Nat) (c : DoorCfg) {s : State} (hs : Q s) : Q (doorConfig d c s).state := by
  unfold doorConfig
  repeat' first
    | with_reducible assumption | with_reducible apply applyDoorConfig_keeps (h.mono (by decide))
    | with_reducible apply okAdjusted_keeps | with_reducible apply refuse_keeps | extract_lets
    | with_reducible apply ite_keeps | split

theorem doorConfigStopLatch_keeps {Q : State → Prop} (h : Closed [.doors] Q)
    (stop : Option Nat) (assist : Option Nat) {s : State} (hs : Q s) : Q (doorConfigStopLatch stop assist
        s).state := by
  unfold doorConfigStopLatch
  repeat' first
    | with_reducible assumption | with_reducible apply State.setDoors_keeps h (by decide)
    | with_reducible apply ok_keeps | with_reducible apply refuse_keeps | split

theorem doorRead_keeps {Q : State → Prop}  {s : State} (hs : Q s) : Q (doorRead s).state := by
  unfold doorRead; first | exact hs | (repeat' first | exact hs | split)

theorem stopRequestClear_keeps {Q : State → Prop} (h : Closed [.doors, .handed, .offer, .request, .write] Q)
     {s : State} (hs : Q s) : Q (stopRequestClear s).state := by
  unfold stopRequestClear
  repeat' first
    | with_reducible assumption | with_reducible apply ok_keeps
    | with_reducible apply clearStop_keeps (h.mono (by decide))

theorem applyPolicy_keeps {Q : State → Prop} (h : Closed [.doors, .offer, .request, .write] Q)
    (p : DoorPolicy) {s : State} (hs : Q s) : Q (applyPolicy p s) := by
  unfold applyPolicy
  repeat' first
    | with_reducible assumption | with_reducible apply State.setDoors_keeps h (by decide)
    | with_reducible apply decidePermission_keeps (h.mono (by decide))
    | with_reducible apply decideInterlock_keeps (h.mono (by decide))
    | with_reducible apply setRun_keeps (h.mono (by decide)) | extract_lets | with_reducible apply ite_keeps | split

theorem doorPolicy_keeps {Q : State → Prop} (h : Closed [.doors, .offer, .request, .write] Q)
    (p : DoorPolicy) {s : State} (hs : Q s) : Q (doorPolicy p s).state := by
  unfold doorPolicy
  repeat' first
    | with_reducible assumption | with_reducible apply okAdjusted_keeps
    | with_reducible apply applyPolicy_keeps (h.mono (by decide))

theorem doorsRunEntry_keeps {Q : State → Prop} (h : Closed [.doors, .handed, .enqueue, .offer, .request, .write] Q)
     {s : State} (hs : Q s) : Q (doorsRunEntry s) := by
  unfold doorsRunEntry
  repeat' first
    | with_reducible assumption | with_reducible apply State.setDoors_keeps h (by decide)
    | (with_reducible apply forEach_keeps; intro _ _ _)
    | with_reducible apply followDerivation_keeps (h.mono (by decide))
    | with_reducible apply deriveDoor_keeps (h.mono (by decide))
    | with_reducible apply judgeInterlockFault_keeps (h.mono (by decide)) | extract_lets

theorem doorSleepEntry_keeps {Q : State → Prop} (h : Closed [.doors, .handed] Q)
    (d : Nat) {s : State} (hs : Q s) : Q (doorSleepEntry d s) := by
  unfold doorSleepEntry
  repeat' first
    | with_reducible assumption | with_reducible apply reportDoorEnd_keeps (h.mono (by decide))
    | with_reducible apply putDoor_keeps (h.mono (by decide))

theorem doorsSleepEntry_keeps {Q : State → Prop} (h : Closed [.doors, .handed, .offer] Q)
     {s : State} (hs : Q s) : Q (doorsSleepEntry s) := by
  unfold doorsSleepEntry
  repeat' first
    | with_reducible assumption | with_reducible apply State.setDoors_keeps h (by decide)
    | (with_reducible apply forEach_keeps; intro _ _ _)
    | with_reducible apply doorSleepEntry_keeps (h.mono (by decide))
    | with_reducible apply offer_keeps (h.mono (by decide))
    | with_reducible apply offerShared_keeps (h.mono (by decide)) | extract_lets | with_reducible apply ite_keeps
    | split

theorem putGauge_keeps {Q : State → Prop} (h : Closed [.gauges, .parking, .offer] Q)
    (g : Nat) (new : Gauge) {s : State} (hs : Q s) : Q (putGauge g new s) := by
  unfold putGauge
  repeat' first
    | with_reducible assumption | with_reducible apply State.setGauges_keeps h (by decide)
    | with_reducible apply tellParking_keeps (h.mono (by decide))
    | with_reducible apply offer_keeps (h.mono (by decide)) | extract_lets | with_reducible apply ite_keeps | split

theorem targetUpdate_keeps {Q : State → Prop} (h : Closed [.gauges, .parking, .offer] Q)
    (g : Nat) {s : State} (hs : Q s) : Q (targetUpdate g s) := by
  unfold targetUpdate
  repeat' first
    | with_reducible assumption | with_reducible apply putGauge_keeps (h.mono (by decide)) | extract_lets
    | with_reducible apply ite_keeps | split

theorem startHoming_keeps {Q : State → Prop} (h : Closed [.gauges, .parking, .offer] Q)
    (g : Nat) {s : State} (hs : Q s) : Q (startHoming g s) := by
  unfold startHoming
  repeat' first | with_reducible assumption | with_reducible apply putGauge_keeps (h.mono (by decide)) | split

theorem completeHoming_keeps {Q : State → Prop} (h : Closed [.gauges, .handed, .parking, .offer] Q)
    (g : Nat) {s : State} (hs : Q s) : Q (completeHoming g s) := by
  unfold completeHoming
  repeat' first
    | with_reducible assumption | with_reducible apply putGauge_keeps (h.mono (by decide))
    | with_reducible apply reportFault_keeps (h.mono (by decide)) | extract_lets | with_reducible apply ite_keeps
    | split

theorem homingStep_keeps {Q : State → Prop} (h : Closed [.gauges, .handed, .parking, .offer] Q)
    (g : Nat) {s : State} (hs : Q s) : Q (homingStep g s) := by
  unfold homingStep
  repeat' first
    | with_reducible assumption | with_reducible apply putGauge_keeps (h.mono (by decide))
    | with_reducible apply completeHoming_keeps (h.mono (by decide)) | extract_lets | with_reducible apply ite_keeps
    | split

theorem coilFault_keeps {Q : State → Prop} (h : Closed [.gauges, .handed, .parking, .offer] Q)
    (g : Nat) {s : State} (hs : Q s) : Q (coilFault g s) := by
  unfold coilFault
  repeat' first
    | with_reducible assumption | with_reducible apply reportFault_keeps (h.mono (by decide))
    | with_reducible apply putGauge_keeps (h.mono (by decide))

theorem motionEvent_keeps {Q : State → Prop} (h : Closed [.gauges, .handed, .parking, .offer] Q)
    (g : Nat) (coilOpen : Bool) {s : State} (hs : Q s) : Q (motionEvent g coilOpen s) := by
  unfold motionEvent
  repeat' first
    | with_reducible assumption | with_reducible apply coilFault_keeps (h.mono (by decide))
    | with_reducible apply homingStep_keeps (h.mono (by decide))
    | with_reducible apply putGauge_keeps (h.mono (by decide)) | extract_lets | with_reducible apply ite_keeps
    | split

theorem homingComplete_keeps {Q : State → Prop} (h : Closed [.gauges, .handed, .parking, .offer] Q)
    (g : Nat) {s : State} (hs : Q s) : Q (homingComplete g s) := by
  unfold homingComplete
  repeat' first
    | with_reducible assumption | with_reducible apply homingStep_keeps (h.mono (by decide)) | extract_lets
    | with_reducible apply ite_keeps | split

theorem gaugeUnderVoltage_keeps {Q : State → Prop} (h : Closed [.gauges, .parking, .offer] Q)
    (g : Nat) {s : State} (hs : Q s) : Q (gaugeUnderVoltage g s) := by
  unfold gaugeUnderVoltage
  repeat' first
    | with_reducible assumption | with_reducible apply putGauge_keeps (h.mono (by decide)) | extract_lets
    | with_reducible apply ite_keeps | split

theorem gaugeUnderVoltageEnd_keeps {Q : State → Prop} (h : Closed [.gauges, .parking, .offer] Q)
    (g : Nat) {s : State} (hs : Q s) : Q (gaugeUnderVoltageEnd g s) := by
  unfold gaugeUnderVoltageEnd
  repeat' first
    | with_reducible assumption | with_reducible apply startHoming_keeps (h.mono (by decide))
    | with_reducible apply putGauge_keeps (h.mono (by decide)) | extract_lets | with_reducible apply ite_keeps
    | split

theorem freezeExpiry_keeps {Q : State → Prop} (h : Closed [.gauges, .parking, .offer] Q)
    (g : Nat) {s : State} (hs : Q s) : Q (freezeExpiry g s) := by
  unfold freezeExpiry
  repeat' first
    | with_reducible assumption | with_reducible apply putGauge_keeps (h.mono (by decide)) | extract_lets
    | with_reducible apply ite_keeps | split

theorem rehomeForPmax_keeps {Q : State → Prop} (h : Closed [.gauges, .parking, .offer] Q)
    (g : Nat) {s : State} (hs : Q s) : Q (rehomeForPmax g s) := by
  unfold rehomeForPmax
  repeat' first
    | with_reducible assumption | with_reducible apply startHoming_keeps (h.mono (by decide))
    | with_reducible apply putGauge_keeps (h.mono (by decide)) | split

theorem leaveParked_keeps {Q : State → Prop} (h : Closed [.gauges, .parking, .offer] Q)
    (g : Nat) (oldSource : Option Nat) {s : State} (hs : Q s) : Q (leaveParked g oldSource s) := by
  unfold leaveParked
  repeat' first
    | with_reducible assumption | with_reducible apply putGauge_keeps (h.mono (by decide)) | extract_lets
    | with_reducible apply ite_keeps | split

theorem applyGaugeConfig_keeps {Q : State → Prop} (h : Closed [.gauges, .parking, .offer] Q)
    (g : Nat) (c : GaugeCfg) {s : State} (hs : Q s) : Q (applyGaugeConfig g c s) := by
  unfold applyGaugeConfig
  repeat' first
    | with_reducible assumption | with_reducible apply putGauge_keeps (h.mono (by decide))
    | with_reducible apply rehomeForPmax_keeps (h.mono (by decide))
    | with_reducible apply leaveParked_keeps (h.mono (by decide)) | extract_lets | with_reducible apply ite_keeps
    | split

theorem gaugeConfig_keeps {Q : State → Prop} (h : Closed [.gauges, .parking, .offer] Q)
    (g : Nat) (c : GaugeCfg) {s : State} (hs : Q s) : Q (gaugeConfig g c s).state := by
  unfold gaugeConfig
  repeat' first
    | with_reducible assumption | with_reducible apply applyGaugeConfig_keeps (h.mono (by decide))
    | with_reducible apply okAdjusted_keeps | with_reducible apply refuse_keeps | extract_lets
    | with_reducible apply ite_keeps | split

theorem gaugeRead_keeps {Q : State → Prop}  {s : State} (hs : Q s) : Q (gaugeRead s).state := by
  unfold gaugeRead; first | exact hs | (repeat' first | exact hs | split)

theorem gaugeTestSet_keeps {Q : State → Prop} (h : Closed [.gauges, .parking, .offer] Q)
    (g : Nat) (pos : Nat) {s : State} (hs : Q s) : Q (gaugeTestSet g pos s).state := by
  unfold gaugeTestSet
  repeat' first
    | with_reducible assumption | with_reducible apply refuse_keeps | with_reducible apply ok_keeps
    | with_reducible apply putGauge_keeps (h.mono (by decide)) | extract_lets | with_reducible apply ite_keeps
    | split

theorem endTest_keeps {Q : State → Prop} (h : Closed [.gauges, .parking, .offer] Q)
    (g : Nat) {s : State} (hs : Q s) : Q (endTest g s) := by
  unfold endTest
  repeat' first
    | with_reducible assumption | with_reducible apply putGauge_keeps (h.mono (by decide)) | extract_lets
    | with_reducible apply ite_keeps | split

theorem gaugeTestEnd_keeps {Q : State → Prop} (h : Closed [.gauges, .parking, .offer] Q)
    (g : Nat) {s : State} (hs : Q s) : Q (gaugeTestEnd g s).state := by
  unfold gaugeTestEnd
  repeat' first
    | with_reducible assumption | with_reducible apply refuse_keeps | with_reducible apply ok_keeps
    | with_reducible apply endTest_keeps (h.mono (by decide)) | split

theorem gaugeRehome_keeps {Q : State → Prop} (h : Closed [.gauges, .parking, .offer] Q)
    (g : Nat) {s : State} (hs : Q s) : Q (gaugeRehome g s).state := by
  unfold gaugeRehome
  repeat' first
    | with_reducible assumption | with_reducible apply refuse_keeps | with_reducible apply ok_keeps
    | with_reducible apply startHoming_keeps (h.mono (by decide)) | split

theorem gaugeServiceChange_keeps {Q : State → Prop} (h : Closed [.gauges, .parking, .offer] Q)
    (on : Bool) {s : State} (hs : Q s) : Q (gaugeServiceChange on s) := by
  unfold gaugeServiceChange
  repeat' first
    | with_reducible assumption | with_reducible apply State.setGauges_keeps h (by decide)
    | (with_reducible apply forEach_keeps; intro _ _ _) | with_reducible apply endTest_keeps (h.mono (by decide))
    | extract_lets | with_reducible apply ite_keeps | split

theorem gaugeRunEntry_keeps {Q : State → Prop} (h : Closed [.gauges, .parking, .offer] Q)
    (g : Nat) {s : State} (hs : Q s) : Q (gaugeRunEntry g s) := by
  unfold gaugeRunEntry
  repeat' first | with_reducible assumption | with_reducible apply putGauge_keeps (h.mono (by decide)) | extract_lets

theorem gaugeAfterrunEntry_keeps {Q : State → Prop} (h : Closed [.gauges, .parking, .offer] Q)
    (g : Nat) {s : State} (hs : Q s) : Q (gaugeAfterrunEntry g s) := by
  unfold gaugeAfterrunEntry
  repeat' first
    | with_reducible assumption | with_reducible apply putGauge_keeps (h.mono (by decide)) | extract_lets
    | with_reducible apply ite_keeps | split

theorem gaugeReturn_keeps {Q : State → Prop} (h : Closed [.gauges, .parking, .offer] Q)
    (g : Nat) {s : State} (hs : Q s) : Q (gaugeReturn g s) := by
  unfold gaugeReturn
  repeat' first
    | with_reducible assumption | with_reducible apply startHoming_keeps (h.mono (by decide))
    | with_reducible apply putGauge_keeps (h.mono (by decide)) | extract_lets | split

theorem gaugeSleepEntry_keeps {Q : State → Prop} (h : Closed [.gauges, .handed, .parking, .offer] Q)
    (g : Nat) {s : State} (hs : Q s) : Q (gaugeSleepEntry g s) := by
  unfold gaugeSleepEntry
  repeat' first
    | with_reducible assumption | with_reducible apply putGauge_keeps (h.mono (by decide))
    | with_reducible apply reportFault_keeps (h.mono (by decide)) | extract_lets | split

theorem putWarn_keeps {Q : State → Prop} (h : Closed [.warnings] Q)
    (i : Nat) (w : Warning) {s : State} (hs : Q s) : Q (putWarn i w s) := by
  unfold putWarn
  repeat' first | with_reducible assumption | with_reducible apply State.setWarnings_keeps h (by decide)

theorem setActivation_keeps {Q : State → Prop} (h : Closed [.warnings] Q)
    (xs : List Nat) {s : State} (hs : Q s) : Q (setActivation xs s) := by
  unfold setActivation
  repeat' first | with_reducible assumption | with_reducible apply State.setWarnings_keeps h (by decide)

theorem reportEvent_keeps {Q : State → Prop} (h : Closed [.handed] Q)
    (i : Nat) (c : WarningCfg) (active : Bool) {s : State} (hs : Q s) : Q (reportEvent i c active s) := by
  unfold reportEvent
  repeat' first | with_reducible assumption | with_reducible apply reportFault_keeps (h.mono (by decide)) | split

theorem askChime_keeps {Q : State → Prop} (h : Closed [.handed] Q)
    (i : Nat) (c : WarningCfg) {s : State} (hs : Q s) : Q (askChime i c s) := by
  unfold askChime
  repeat' first | with_reducible assumption | with_reducible apply hand_keeps (h.mono (by decide)) | split

theorem withdrawChime_keeps {Q : State → Prop} (h : Closed [.handed] Q)
    (i : Nat) (c : WarningCfg) (modes : List ChimeMode) {s : State} (hs : Q s) : Q (withdrawChime i c modes s) := by
  unfold withdrawChime
  repeat' first | with_reducible assumption | with_reducible apply hand_keeps (h.mono (by decide)) | split

theorem enterInactive_keeps {Q : State → Prop} (h : Closed [.warnings, .handed] Q)
    (i : Nat) {s : State} (hs : Q s) : Q (enterInactive i s) := by
  unfold enterInactive
  repeat' first
    | with_reducible assumption | with_reducible apply putWarn_keeps (h.mono (by decide))
    | with_reducible apply setActivation_keeps (h.mono (by decide))
    | with_reducible apply reportEvent_keeps (h.mono (by decide))
    | with_reducible apply withdrawChime_keeps (h.mono (by decide)) | extract_lets

theorem activate_keeps {Q : State → Prop} (h : Closed [.warnings, .handed] Q)
    (i : Nat) {s : State} (hs : Q s) : Q (activate i s) := by
  unfold activate
  repeat' first
    | with_reducible assumption | with_reducible apply putWarn_keeps (h.mono (by decide))
    | with_reducible apply setActivation_keeps (h.mono (by decide))
    | with_reducible apply reportEvent_keeps (h.mono (by decide))
    | with_reducible apply askChime_keeps (h.mono (by decide)) | extract_lets

theorem endOffDelay_keeps {Q : State → Prop} (h : Closed [.warnings, .handed] Q)
    (i : Nat) {s : State} (hs : Q s) : Q (endOffDelay i s) := by
  unfold endOffDelay
  repeat' first
    | with_reducible assumption | with_reducible apply withdrawChime_keeps (h.mono (by decide))
    | with_reducible apply putWarn_keeps (h.mono (by decide))
    | with_reducible apply enterInactive_keeps (h.mono (by decide)) | extract_lets | with_reducible apply ite_keeps
    | split

theorem stepWarning_keeps {Q : State → Prop} (h : Closed [.warnings, .handed] Q)
    (i : Nat) (cond : Bool) {s : State} (hs : Q s) : Q (stepWarning i cond s) := by
  unfold stepWarning
  repeat' first
    | with_reducible assumption | with_reducible apply activate_keeps (h.mono (by decide))
    | with_reducible apply putWarn_keeps (h.mono (by decide))
    | with_reducible apply enterInactive_keeps (h.mono (by decide))
    | with_reducible apply endOffDelay_keeps (h.mono (by decide))
    | with_reducible apply askChime_keeps (h.mono (by decide)) | extract_lets | with_reducible apply ite_keeps
    | split

theorem remind_keeps {Q : State → Prop} (h : Closed [.warnings, .handed] Q)
    (i : Nat) {s : State} (hs : Q s) : Q (remind i s) := by
  unfold remind
  repeat' first
    | with_reducible assumption | with_reducible apply askChime_keeps (h.mono (by decide))
    | with_reducible apply putWarn_keeps (h.mono (by decide)) | extract_lets

theorem stepReminder_keeps {Q : State → Prop} (h : Closed [.warnings, .handed] Q)
    (i : Nat) {s : State} (hs : Q s) : Q (stepReminder i s) := by
  unfold stepReminder
  repeat' first
    | with_reducible assumption | with_reducible apply remind_keeps (h.mono (by decide))
    | with_reducible apply putWarn_keeps (h.mono (by decide)) | extract_lets | with_reducible apply ite_keeps
    | split

theorem offerWarning_keeps {Q : State → Prop} (h : Closed [.offer] Q)
    (i : Nat) (old : Warning) {s : State} (hs : Q s) : Q (offerWarning i old s) := by
  unfold offerWarning
  repeat' first
    | with_reducible assumption | with_reducible apply offer_keeps (h.mono (by decide)) | extract_lets
    | with_reducible apply ite_keeps | split

theorem settleAttention_keeps {Q : State → Prop} (h : Closed [.warnings, .offer] Q)
     {s : State} (hs : Q s) : Q (settleAttention s) := by
  unfold settleAttention
  repeat' first
    | with_reducible assumption | with_reducible apply State.setWarnings_keeps h (by decide)
    | with_reducible apply offer_keeps (h.mono (by decide)) | extract_lets | with_reducible apply ite_keeps | split

theorem settleTelltale_keeps {Q : State → Prop} (h : Closed [.warnings, .offer] Q)
    (all : Bool) (t : Nat) {s : State} (hs : Q s) : Q (settleTelltale all t s) := by
  unfold settleTelltale
  repeat' first
    | with_reducible assumption | with_reducible apply State.setWarnings_keeps h (by decide)
    | with_reducible apply offer_keeps (h.mono (by decide)) | extract_lets | with_reducible apply ite_keeps | split

theorem settleWarnings_keeps {Q : State → Prop} (h : Closed [.warnings, .offer, .request] Q)
    (all : Bool) {s : State} (hs : Q s) : Q (settleWarnings all s) := by
  unfold settleWarnings
  repeat' first
    | with_reducible assumption | (with_reducible apply forEach_keeps; intro _ _ _)
    | with_reducible apply handRequests_keeps (h.mono (by decide))
    | with_reducible apply settleTelltale_keeps (h.mono (by decide))
    | with_reducible apply settleAttention_keeps (h.mono (by decide))

theorem visit_keeps {Q : State → Prop} (h : Closed [.warnings, .handed, .offer] Q)
    (before : Vector Warning 32) (i : Nat) {s : State} (hs : Q s) : Q (visit before i s) := by
  unfold visit
  repeat' first
    | with_reducible assumption | with_reducible apply putWarn_keeps (h.mono (by decide))
    | with_reducible apply offerWarning_keeps (h.mono (by decide))
    | with_reducible apply stepReminder_keeps (h.mono (by decide))
    | with_reducible apply stepWarning_keeps (h.mono (by decide)) | extract_lets | with_reducible apply ite_keeps
    | split

theorem scan_keeps {Q : State → Prop} (h : Closed [.warnings, .handed, .offer, .request] Q)
     {s : State} (hs : Q s) : Q (scan s) := by
  unfold scan
  repeat' first
    | with_reducible assumption | (with_reducible apply forEach_keeps; intro _ _ _)
    | with_reducible apply settleWarnings_keeps (h.mono (by decide))
    | with_reducible apply visit_keeps (h.mono (by decide)) | split

theorem endOfCount_keeps {Q : State → Prop} (h : Closed [.warnings, .offer, .request] Q)
    (i : Nat) {f : State → State} {s : State} (hf : Q (f s)) : Q (endOfCount i f s) :=
  settleWarnings_keeps (h.mono (by decide)) _ (offerWarning_keeps (h.mono (by decide)) _ _ hf)

theorem onDelayEnd_keeps {Q : State → Prop} (h : Closed [.warnings, .handed, .offer, .request] Q)
    (i : Nat) {s : State} (hs : Q s) : Q (onDelayEnd i s) := by
  unfold onDelayEnd
  repeat' first
    | with_reducible assumption | with_reducible apply endOfCount_keeps (h.mono (by decide))
    | with_reducible apply activate_keeps (h.mono (by decide)) | extract_lets | with_reducible apply ite_keeps
    | split

theorem offDelayEnd_keeps {Q : State → Prop} (h : Closed [.warnings, .handed, .offer, .request] Q)
    (i : Nat) {s : State} (hs : Q s) : Q (offDelayEnd i s) := by
  unfold offDelayEnd
  repeat' first
    | with_reducible assumption | with_reducible apply endOfCount_keeps (h.mono (by decide))
    | with_reducible apply endOffDelay_keeps (h.mono (by decide)) | extract_lets | with_reducible apply ite_keeps
    | split

theorem reminderDue_keeps {Q : State → Prop} (h : Closed [.warnings, .handed, .offer, .request] Q)
    (i : Nat) {s : State} (hs : Q s) : Q (reminderDue i s) := by
  unfold reminderDue
  repeat' first
    | with_reducible assumption | with_reducible apply endOfCount_keeps (h.mono (by decide))
    | with_reducible apply remind_keeps (h.mono (by decide)) | extract_lets | with_reducible apply ite_keeps | split

theorem acknowledge_keeps {Q : State → Prop} (h : Closed [.warnings, .handed, .offer] Q)
    (i : Nat) {s : State} (hs : Q s) : Q (acknowledge i s) := by
  unfold acknowledge
  repeat' first
    | with_reducible assumption | with_reducible apply offerWarning_keeps (h.mono (by decide))
    | with_reducible apply withdrawChime_keeps (h.mono (by decide))
    | with_reducible apply putWarn_keeps (h.mono (by decide))
    | with_reducible apply enterInactive_keeps (h.mono (by decide)) | extract_lets | split

theorem ackHead_keeps {Q : State → Prop} (h : Closed [.warnings, .handed, .offer, .request] Q)
     {s : State} (hs : Q s) : Q (ackHead s) := by
  unfold ackHead
  repeat' first
    | with_reducible assumption | with_reducible apply settleWarnings_keeps (h.mono (by decide))
    | with_reducible apply acknowledge_keeps (h.mono (by decide)) | split

theorem warningAckHead_keeps {Q : State → Prop} (h : Closed [.warnings, .handed, .offer, .request] Q)
     {s : State} (hs : Q s) : Q (warningAckHead s).state := by
  unfold warningAckHead
  repeat' first
    | with_reducible assumption | with_reducible apply ok_keeps
    | with_reducible apply ackHead_keeps (h.mono (by decide))

theorem warningAckIndex_keeps {Q : State → Prop} (h : Closed [.warnings, .handed, .offer, .request] Q)
    (i : Nat) {s : State} (hs : Q s) : Q (warningAckIndex i s).state := by
  unfold warningAckIndex
  repeat' first
    | with_reducible assumption | with_reducible apply refuse_keeps | with_reducible apply ok_keeps
    | with_reducible apply settleWarnings_keeps (h.mono (by decide))
    | with_reducible apply acknowledge_keeps (h.mono (by decide)) | split

theorem warningAckAll_keeps {Q : State → Prop} (h : Closed [.warnings, .handed, .offer, .request] Q)
     {s : State} (hs : Q s) : Q (warningAckAll s).state := by
  unfold warningAckAll
  repeat' first
    | with_reducible assumption | (with_reducible apply foldl_keeps; intro _ _ _) | with_reducible apply ok_keeps
    | with_reducible apply settleWarnings_keeps (h.mono (by decide))
    | with_reducible apply acknowledge_keeps (h.mono (by decide)) | extract_lets

theorem applyWarningConfig_keeps {Q : State → Prop} (h : Closed [.warnings, .handed, .offer, .request] Q)
    (i : Nat) (c : WarningCfg) {s : State} (hs : Q s) : Q (applyWarningConfig i c s) := by
  unfold applyWarningConfig
  repeat' first
    | with_reducible assumption | with_reducible apply withdrawChime_keeps (h.mono (by decide))
    | with_reducible apply reportEvent_keeps (h.mono (by decide))
    | with_reducible apply putWarn_keeps (h.mono (by decide))
    | with_reducible apply setActivation_keeps (h.mono (by decide))
    | with_reducible apply settleWarnings_keeps (h.mono (by decide))
    | with_reducible apply offerWarning_keeps (h.mono (by decide)) | extract_lets | with_reducible apply ite_keeps
    | split

theorem warningConfig_keeps {Q : State → Prop} (h : Closed [.warnings, .handed, .offer, .request] Q)
    (i : Nat) (c : WarningCfg) {s : State} (hs : Q s) : Q (warningConfig i c s).state := by
  unfold warningConfig
  repeat' first
    | with_reducible assumption | with_reducible apply okAdjusted_keeps
    | with_reducible apply applyWarningConfig_keeps (h.mono (by decide)) | with_reducible apply refuse_keeps | split

theorem warningRead_keeps {Q : State → Prop} (i : Nat) {s : State} (hs : Q s) : Q (warningRead i s).state := by
  unfold warningRead; first | exact hs | (repeat' first | exact hs | split)

theorem telltaleRead_keeps {Q : State → Prop}  {s : State} (hs : Q s) : Q (telltaleRead s).state := by
  unfold telltaleRead; first | exact hs | (repeat' first | exact hs | split)

theorem attentionRead_keeps {Q : State → Prop}  {s : State} (hs : Q s) : Q (attentionRead s).state := by
  unfold attentionRead; first | exact hs | (repeat' first | exact hs | split)

theorem startProveOut_keeps {Q : State → Prop} (h : Closed [.warnings] Q)
     {s : State} (hs : Q s) : Q (startProveOut s) := by
  unfold startProveOut
  repeat' first | with_reducible assumption | with_reducible apply State.setWarnings_keeps h (by decide)

theorem lampTest_keeps {Q : State → Prop} (h : Closed [.warnings, .offer, .request] Q)
     {s : State} (hs : Q s) : Q (lampTest s).state := by
  unfold lampTest
  repeat' first
    | with_reducible assumption | with_reducible apply ok_keeps
    | with_reducible apply settleWarnings_keeps (h.mono (by decide))
    | with_reducible apply startProveOut_keeps (h.mono (by decide)) | with_reducible apply refuse_keeps | split

theorem proveOutExpiry_keeps {Q : State → Prop} (h : Closed [.warnings, .offer, .request] Q)
     {s : State} (hs : Q s) : Q (proveOutExpiry s) := by
  unfold proveOutExpiry
  repeat' first
    | with_reducible assumption | with_reducible apply State.setWarnings_keeps h (by decide)
    | with_reducible apply settleWarnings_keeps (h.mono (by decide)) | split

theorem blink_keeps {Q : State → Prop} (h : Closed [.warnings, .request] Q)
     {s : State} (hs : Q s) : Q (blink s) := by
  unfold blink
  repeat' first
    | with_reducible assumption | with_reducible apply State.setWarnings_keeps h (by decide)
    | with_reducible apply handRequests_keeps (h.mono (by decide)) | split

theorem warningsRunEntry_keeps {Q : State → Prop} (h : Closed [.warnings, .handed, .offer, .request] Q)
     {s : State} (hs : Q s) : Q (warningsRunEntry s) := by
  unfold warningsRunEntry
  repeat' first
    | with_reducible assumption | with_reducible apply State.setWarnings_keeps h (by decide)
    | (with_reducible apply forEach_keeps; intro _ _ _) | with_reducible apply blink_keeps (h.mono (by decide))
    | with_reducible apply settleWarnings_keeps (h.mono (by decide))
    | with_reducible apply reportEvent_keeps (h.mono (by decide)) | extract_lets

theorem warningSleepEntry_keeps {Q : State → Prop} (h : Closed [.warnings, .handed, .offer] Q)
    (i : Nat) {s : State} (hs : Q s) : Q (warningSleepEntry i s) := by
  unfold warningSleepEntry
  repeat' first
    | with_reducible assumption | with_reducible apply putWarn_keeps (h.mono (by decide))
    | with_reducible apply withdrawChime_keeps (h.mono (by decide))
    | with_reducible apply offerWarning_keeps (h.mono (by decide))
    | with_reducible apply reportEvent_keeps (h.mono (by decide)) | extract_lets | with_reducible apply ite_keeps
    | split

theorem warningsSleepEntry_keeps {Q : State → Prop} (h : Closed [.warnings, .handed, .offer, .request] Q)
     {s : State} (hs : Q s) : Q (warningsSleepEntry s) := by
  unfold warningsSleepEntry
  repeat' first
    | with_reducible assumption | with_reducible apply State.setWarnings_keeps h (by decide)
    | (with_reducible apply forEach_keeps; intro _ _ _)
    | with_reducible apply warningSleepEntry_keeps (h.mono (by decide))
    | with_reducible apply blink_keeps (h.mono (by decide))
    | with_reducible apply settleTelltale_keeps (h.mono (by decide))
    | with_reducible apply settleAttention_keeps (h.mono (by decide)) | extract_lets

theorem chimePatternSet_keeps {Q : State → Prop} (h : Closed [.chime] Q)
    (i : Nat) (p : ChimePattern) {s : State} (hs : Q s) : Q (chimePatternSet i p s).state := by
  unfold chimePatternSet
  repeat' first
    | with_reducible assumption | with_reducible apply okChime_keeps (h.mono (by decide))
    | with_reducible apply refuse_keeps | split

theorem chimeVolume_keeps {Q : State → Prop} (h : Closed [.chime] Q)
    (v : Nat) {s : State} (hs : Q s) : Q (chimeVolume v s).state := by
  unfold chimeVolume
  repeat' first | with_reducible assumption | with_reducible apply okChime_keeps (h.mono (by decide))

theorem chimePlay_keeps {Q : State → Prop} (h : Closed [.chime] Q)
    (i : Nat) (m : ChimeMode) {s : State} (hs : Q s) : Q (chimePlay i m s).state := by
  unfold chimePlay
  repeat' first
    | with_reducible assumption | with_reducible apply refuse_keeps
    | with_reducible apply okChime_keeps (h.mono (by decide)) | split

theorem chimeStop_keeps {Q : State → Prop} (h : Closed [.chime] Q)
     {s : State} (hs : Q s) : Q (chimeStop s).state := by
  unfold chimeStop
  repeat' first | with_reducible assumption | with_reducible apply okChime_keeps (h.mono (by decide))

theorem toneBad_keeps {Q : State → Prop} (h : Closed [.chime, .handed] Q)
    (reading : ToneReading) {s : State} (hs : Q s) : Q (toneBad reading s) := by
  unfold toneBad
  repeat' first
    | with_reducible assumption | with_reducible apply State.setChime_keeps h (by decide)
    | with_reducible apply reportFault_keeps (h.mono (by decide)) | extract_lets | with_reducible apply ite_keeps
    | split

theorem toneGood_keeps {Q : State → Prop} (h : Closed [.chime, .handed] Q)
    (k : ToneFault) (reading : ToneReading) {s : State} (hs : Q s) : Q (toneGood k reading s) := by
  unfold toneGood
  repeat' first
    | with_reducible assumption | with_reducible apply State.setChime_keeps h (by decide)
    | with_reducible apply reportFault_keeps (h.mono (by decide)) | extract_lets | with_reducible apply ite_keeps
    | split

theorem toneSense_keeps {Q : State → Prop} (h : Closed [.chime, .handed] Q)
    (reading : ToneReading) {s : State} (hs : Q s) : Q (toneSense reading s) := by
  unfold toneSense
  repeat' first
    | with_reducible assumption | with_reducible apply toneBad_keeps (h.mono (by decide))
    | with_reducible apply toneGood_keeps (h.mono (by decide)) | split

theorem chimeSleepEntry_keeps {Q : State → Prop} (h : Closed [.chime, .handed] Q)
     {s : State} (hs : Q s) : Q (chimeSleepEntry s) := by
  unfold chimeSleepEntry
  repeat' first
    | with_reducible assumption | with_reducible apply State.setChime_keeps h (by decide)
    | with_reducible apply reportFault_keeps (h.mono (by decide)) | extract_lets | split

theorem declareUnderVoltage_keeps {Q : State → Prop} (h : Closed [.senders, .supply, .gauges, .parking, .offer,
    .write] Q)
     {s : State} (hs : Q s) : Q (declareUnderVoltage s) := by
  unfold declareUnderVoltage
  repeat' first
    | with_reducible assumption | with_reducible apply State.setSupply_keeps h (by decide)
    | (with_reducible apply forEach_keeps; intro _ _ _)
    | with_reducible apply gaugeUnderVoltage_keeps (h.mono (by decide))
    | with_reducible apply senderUnderVoltage_keeps (h.mono (by decide)) | extract_lets

theorem endSupplyReport_keeps {Q : State → Prop} (h : Closed [.handed] Q)
     {s : State} (hs : Q s) : Q (endSupplyReport s) := by
  unfold endSupplyReport
  repeat' first | with_reducible assumption | with_reducible apply reportFault_keeps (h.mono (by decide)) | split

theorem endUnderVoltage_keeps {Q : State → Prop} (h : Closed [.supply, .gauges, .handed, .parking, .offer] Q)
     {s : State} (hs : Q s) : Q (endUnderVoltage s) := by
  unfold endUnderVoltage
  repeat' first
    | with_reducible assumption | with_reducible apply State.setSupply_keeps h (by decide)
    | (with_reducible apply forEach_keeps; intro _ _ _)
    | with_reducible apply endSupplyReport_keeps (h.mono (by decide))
    | with_reducible apply gaugeUnderVoltageEnd_keeps (h.mono (by decide)) | extract_lets

theorem judgeUnderVoltage_keeps {Q : State → Prop} (h : Closed [.senders, .supply, .gauges, .handed, .parking,
    .offer, .write] Q)
    (mV : Nat) {s : State} (hs : Q s) : Q (judgeUnderVoltage mV s) := by
  unfold judgeUnderVoltage
  repeat' first
    | with_reducible assumption | with_reducible apply State.setSupply_keeps h (by decide)
    | with_reducible apply endUnderVoltage_keeps (h.mono (by decide))
    | with_reducible apply declareUnderVoltage_keeps (h.mono (by decide)) | extract_lets
    | with_reducible apply ite_keeps | split

theorem judgeOverVoltage_keeps {Q : State → Prop} (h : Closed [.supply, .outputs, .handed, .offer] Q)
    (mV : Nat) {s : State} (hs : Q s) : Q (judgeOverVoltage mV s) := by
  unfold judgeOverVoltage
  repeat' first
    | with_reducible assumption | with_reducible apply State.setSupply_keeps h (by decide)
    | with_reducible apply uncutOutputs_keeps (h.mono (by decide))
    | with_reducible apply cutOutputs_keeps (h.mono (by decide)) | split

theorem supplyMeasure_keeps {Q : State → Prop} (h : Closed [.senders, .supply, .outputs, .gauges, .handed, .parking,
    .offer, .write] Q)
    (mV : Nat) {s : State} (hs : Q s) : Q (supplyMeasure mV s) := by
  unfold supplyMeasure
  repeat' first
    | with_reducible assumption | with_reducible apply judgeOverVoltage_keeps (h.mono (by decide))
    | with_reducible apply judgeUnderVoltage_keeps (h.mono (by decide))
    | with_reducible apply writeFresh_keeps (h.mono (by decide)) | split

theorem underVoltageReport_keeps {Q : State → Prop} (h : Closed [.supply, .handed] Q)
     {s : State} (hs : Q s) : Q (underVoltageReport s) := by
  unfold underVoltageReport
  repeat' first
    | with_reducible assumption | with_reducible apply State.setSupply_keeps h (by decide)
    | with_reducible apply reportFault_keeps (h.mono (by decide)) | split

theorem supplyRunEntry_keeps {Q : State → Prop} (h : Closed [.supply] Q)
     {s : State} (hs : Q s) : Q (supplyRunEntry s) := by
  unfold supplyRunEntry
  repeat' first | with_reducible assumption | with_reducible apply State.setSupply_keeps h (by decide)

theorem supplySleepEntry_keeps {Q : State → Prop} (h : Closed [.supply, .handed] Q)
     {s : State} (hs : Q s) : Q (supplySleepEntry s) := by
  unfold supplySleepEntry
  repeat' first
    | with_reducible assumption | with_reducible apply State.setSupply_keeps h (by decide)
    | with_reducible apply endSupplyReport_keeps (h.mono (by decide))

theorem setRecords_keeps {Q : State → Prop} (h : Closed [.faults] Q)
    (xs : List FaultRec) {s : State} (hs : Q s) : Q (setRecords xs s) := by
  unfold setRecords
  repeat' first | with_reducible assumption | with_reducible apply State.setFaults_keeps h (by decide)

theorem offerFault_keeps {Q : State → Prop} (h : Closed [.offer] Q)
    (r : FaultRec) (st : FaultStatus) {s : State} (hs : Q s) : Q (offerFault r st s) := by
  unfold offerFault
  repeat' first | with_reducible assumption | with_reducible apply offer_keeps (h.mono (by decide))

theorem faultChanged_keeps {Q : State → Prop} (h : Closed [.enqueue, .offer] Q)
    (r : FaultRec) (st : FaultStatus) {s : State} (hs : Q s) : Q (faultChanged r st s) := by
  unfold faultChanged
  repeat' first
    | with_reducible assumption | with_reducible apply enqueue_keeps (h.mono (by decide))
    | with_reducible apply offerFault_keeps (h.mono (by decide))

theorem createRecord_keeps {Q : State → Prop} (h : Closed [.faults, .enqueue, .offer] Q)
    (code : Nat) {s : State} (hs : Q s) : Q (createRecord code s) := by
  unfold createRecord
  repeat' first
    | with_reducible assumption | with_reducible apply State.setFaults_keeps h (by decide)
    | with_reducible apply faultChanged_keeps (h.mono (by decide)) | extract_lets

theorem notStored_keeps {Q : State → Prop} (h : Closed [.faults, .enqueue, .offer] Q)
    (code : Nat) {s : State} (hs : Q s) : Q (notStored code s) := by
  unfold notStored
  repeat' first
    | with_reducible assumption | with_reducible apply State.setFaults_keeps h (by decide)
    | with_reducible apply enqueue_keeps (h.mono (by decide))
    | with_reducible apply offer_keeps (h.mono (by decide))

theorem reactivate_keeps {Q : State → Prop} (h : Closed [.faults, .enqueue, .offer] Q)
    (r : FaultRec) {s : State} (hs : Q s) : Q (reactivate r s) := by
  unfold reactivate
  repeat' first
    | with_reducible assumption | with_reducible apply faultChanged_keeps (h.mono (by decide))
    | with_reducible apply setRecords_keeps (h.mono (by decide)) | extract_lets | with_reducible apply ite_keeps
    | split

theorem storeNew_keeps {Q : State → Prop} (h : Closed [.faults, .enqueue, .offer] Q)
    (code : Nat) {s : State} (hs : Q s) : Q (storeNew code s) := by
  unfold storeNew
  repeat' first
    | with_reducible assumption | with_reducible apply notStored_keeps (h.mono (by decide))
    | with_reducible apply createRecord_keeps (h.mono (by decide))
    | with_reducible apply faultChanged_keeps (h.mono (by decide))
    | with_reducible apply setRecords_keeps (h.mono (by decide)) | split

theorem faultActive_keeps {Q : State → Prop} (h : Closed [.faults, .enqueue, .offer] Q)
    (code : Nat) {s : State} (hs : Q s) : Q (faultActive code s) := by
  unfold faultActive
  repeat' first
    | with_reducible assumption | with_reducible apply reactivate_keeps (h.mono (by decide))
    | with_reducible apply storeNew_keeps (h.mono (by decide)) | split

theorem faultInactive_keeps {Q : State → Prop} (h : Closed [.faults, .enqueue, .offer] Q)
    (code : Nat) {s : State} (hs : Q s) : Q (faultInactive code s) := by
  unfold faultInactive
  repeat' first
    | with_reducible assumption | with_reducible apply faultChanged_keeps (h.mono (by decide))
    | with_reducible apply setRecords_keeps (h.mono (by decide)) | extract_lets | with_reducible apply ite_keeps
    | split

theorem healRecord_keeps {Q : State → Prop} (h : Closed [.faults, .enqueue, .offer] Q)
    (r : FaultRec) {s : State} (hs : Q s) : Q (healRecord s r) := by
  unfold healRecord
  repeat' first
    | with_reducible assumption | with_reducible apply faultChanged_keeps (h.mono (by decide))
    | with_reducible apply setRecords_keeps (h.mono (by decide)) | extract_lets | with_reducible apply ite_keeps
    | split

theorem cycleEnd_keeps {Q : State → Prop} (h : Closed [.faults, .enqueue, .offer] Q)
     {s : State} (hs : Q s) : Q (cycleEnd s) := by
  unfold cycleEnd
  repeat' first
    | with_reducible assumption | (with_reducible apply foldl_keeps; intro _ _ _)
    | with_reducible apply healRecord_keeps (h.mono (by decide))

theorem faultNext_keeps {Q : State → Prop} (h : Closed [.faults] Q)
     {s : State} (hs : Q s) : Q (faultNext s).state := by
  unfold faultNext
  repeat' first
    | with_reducible assumption | with_reducible apply State.setFaults_keeps h (by decide)
    | with_reducible apply ok_keeps | split

theorem faultRewind_keeps {Q : State → Prop} (h : Closed [.faults] Q)
     {s : State} (hs : Q s) : Q (faultRewind s).state := by
  unfold faultRewind
  repeat' first
    | with_reducible assumption | with_reducible apply State.setFaults_keeps h (by decide)
    | with_reducible apply ok_keeps

theorem clearRecord_keeps {Q : State → Prop} (h : Closed [.faults, .enqueue, .offer] Q)
    (r : FaultRec) {s : State} (hs : Q s) : Q (clearRecord s r) := by
  unfold clearRecord
  repeat' first
    | with_reducible assumption | with_reducible apply faultChanged_keeps (h.mono (by decide))
    | with_reducible apply setRecords_keeps (h.mono (by decide)) | split

theorem clearMarks_keeps {Q : State → Prop} (h : Closed [.faults, .enqueue] Q)
    (sc : ClearScope) {s : State} (hs : Q s) : Q (clearMarks sc s) := by
  unfold clearMarks
  repeat' first
    | with_reducible assumption | with_reducible apply State.setFaults_keeps h (by decide)
    | with_reducible apply enqueue_keeps (h.mono (by decide)) | extract_lets | with_reducible apply ite_keeps
    | split

theorem faultClear_keeps {Q : State → Prop} (h : Closed [.faults, .enqueue, .serve, .offer] Q)
    (sc : ClearScope) {s : State} (hs : Q s) : Q (faultClear sc s).state := by
  unfold faultClear
  repeat' first
    | with_reducible assumption | (with_reducible apply foldl_keeps; intro _ _ _)
    | with_reducible apply refuse_keeps | with_reducible apply ok_keeps
    | with_reducible apply serve_keeps (h.mono (by decide))
    | with_reducible apply clearMarks_keeps (h.mono (by decide))
    | with_reducible apply clearRecord_keeps (h.mono (by decide)) | extract_lets | with_reducible apply ite_keeps
    | split

theorem freezeListSet_keeps {Q : State → Prop} (h : Closed [.faults] Q)
    (xs : List Nat) {s : State} (hs : Q s) : Q (freezeListSet xs s).state := by
  unfold freezeListSet
  repeat' first
    | with_reducible assumption | with_reducible apply State.setFaults_keeps h (by decide)
    | with_reducible apply refuse_keeps | with_reducible apply ok_keeps | split

theorem faultConfig_keeps {Q : State → Prop} (h : Closed [.faults] Q)
    (limit : Nat) {s : State} (hs : Q s) : Q (faultConfig limit s).state := by
  unfold faultConfig
  repeat' first
    | with_reducible assumption | with_reducible apply State.setFaults_keeps h (by decide)
    | with_reducible apply okAdjusted_keeps

theorem setService_keeps {Q : State → Prop} (h : Closed [.faults, .handed, .offer, .write] Q)
    (on : Bool) {s : State} (hs : Q s) : Q (setService on s) := by
  unfold setService
  repeat' first
    | with_reducible assumption | with_reducible apply State.setFaults_keeps h (by decide)
    | with_reducible apply writeFresh_keeps (h.mono (by decide))
    | with_reducible apply hand_keeps (h.mono (by decide)) | with_reducible apply offer_keeps (h.mono (by decide))
    | with_reducible apply liftAllForces_keeps (h.mono (by decide)) | extract_lets | with_reducible apply ite_keeps
    | split

theorem serviceEnter_keeps {Q : State → Prop} (h : Closed [.faults, .handed, .offer, .write] Q)
     {s : State} (hs : Q s) : Q (serviceEnter s).state := by
  unfold serviceEnter
  repeat' first
    | with_reducible assumption | with_reducible apply ok_keeps
    | with_reducible apply setService_keeps (h.mono (by decide)) | with_reducible apply refuse_keeps | split

theorem serviceExit_keeps {Q : State → Prop} (h : Closed [.faults, .handed, .offer, .write] Q)
     {s : State} (hs : Q s) : Q (serviceExit s).state := by
  unfold serviceExit
  repeat' first
    | with_reducible assumption | with_reducible apply ok_keeps
    | with_reducible apply setService_keeps (h.mono (by decide))

theorem serviceSpeedCheck_keeps {Q : State → Prop} (h : Closed [.faults, .handed, .offer, .write] Q)
    (value : Int) (q : Quality) {s : State} (hs : Q s) : Q (serviceSpeedCheck value q s) := by
  unfold serviceSpeedCheck
  repeat' first | with_reducible assumption | with_reducible apply setService_keeps (h.mono (by decide)) | split

theorem serviceBrakeChange_keeps {Q : State → Prop} (h : Closed [.faults, .handed, .offer, .write] Q)
    (applied : Bool) {s : State} (hs : Q s) : Q (serviceBrakeChange applied s) := by
  unfold serviceBrakeChange
  repeat' first | with_reducible assumption | with_reducible apply setService_keeps (h.mono (by decide)) | split

theorem serviceRefresh_keeps {Q : State → Prop} (h : Closed [.write] Q)
     {s : State} (hs : Q s) : Q (serviceRefresh s) := by
  unfold serviceRefresh
  repeat' first | with_reducible assumption | with_reducible apply writeFresh_keeps (h.mono (by decide)) | split

theorem serviceRunEntry_keeps {Q : State → Prop} (h : Closed [.faults, .write] Q)
     {s : State} (hs : Q s) : Q (serviceRunEntry s) := by
  unfold serviceRunEntry
  repeat' first
    | with_reducible assumption | with_reducible apply State.setFaults_keeps h (by decide)
    | with_reducible apply writeFresh_keeps (h.mono (by decide))

theorem serviceSleepEntry_keeps {Q : State → Prop} (h : Closed [.faults] Q)
     {s : State} (hs : Q s) : Q (serviceSleepEntry s) := by
  unfold serviceSleepEntry
  repeat' first | with_reducible assumption | with_reducible apply State.setFaults_keeps h (by decide)

theorem brakeMoved_keeps {Q : State → Prop} (h : Closed [.doors, .faults, .handed, .offer, .request, .write] Q)
    (before : Option Nat) (after : Option Nat) {s : State} (hs : Q s) : Q (brakeMoved before after s) := by
  unfold brakeMoved
  repeat' first
    | with_reducible assumption | with_reducible apply decidePermission_keeps (h.mono (by decide))
    | with_reducible apply setService_keeps (h.mono (by decide)) | extract_lets | with_reducible apply ite_keeps
    | split

theorem overrideMoved_keeps {Q : State → Prop} (h : Closed [.doors, .offer, .request, .write] Q)
    (before : Option Nat) (after : Option Nat) {s : State} (hs : Q s) : Q (overrideMoved before after s) := by
  unfold overrideMoved
  repeat' first | with_reducible assumption | with_reducible apply decideInterlock_keeps (h.mono (by decide)) | split

theorem takeSwitchConfig_keeps {Q : State → Prop} (h : Closed [.switches, .doors, .faults, .handed, .offer,
    .request, .write] Q)
    (k : Nat) (c : SwitchCfg) {s : State} (hs : Q s) : Q (takeSwitchConfig k c s) := by
  unfold takeSwitchConfig
  repeat' first
    | with_reducible assumption | with_reducible apply applySwitchConfig_keeps (h.mono (by decide))
    | with_reducible apply overrideMoved_keeps (h.mono (by decide))
    | with_reducible apply brakeMoved_keeps (h.mono (by decide)) | extract_lets | with_reducible apply ite_keeps
    | split

theorem switchConfig_keeps {Q : State → Prop} (h : Closed [.switches, .doors, .faults, .handed, .offer, .request,
    .write] Q)
    (k : Nat) (c : SwitchCfg) {s : State} (hs : Q s) : Q (switchConfig k c s).state := by
  unfold switchConfig
  repeat' first
    | with_reducible assumption | with_reducible apply okAdjusted_keeps
    | with_reducible apply takeSwitchConfig_keeps (h.mono (by decide)) | with_reducible apply refuse_keeps | split

theorem unknownKind_keeps {Q : State → Prop} (h : Closed [.link] Q)
     {s : State} (hs : Q s) : Q (unknownKind s) := by
  unfold unknownKind
  repeat' first | with_reducible assumption | with_reducible apply State.setLink_keeps h (by decide) | split

theorem identify_keeps {Q : State → Prop}  {s : State} (hs : Q s) : Q (identify s).state := by
  unfold identify; first | exact hs | (repeat' first | exact hs | split)

theorem status_keeps {Q : State → Prop} (h : Closed [.link] Q)
     {s : State} (hs : Q s) : Q (status s).state := by
  unfold status
  repeat' first
    | with_reducible assumption | with_reducible apply ok_keeps
    | with_reducible apply withLink_keeps (h.mono (by decide))

theorem reportSet_keeps {Q : State → Prop} (h : Closed [.link] Q)
    (marks : BitVec 16) {s : State} (hs : Q s) : Q (reportSet marks s).state := by
  unfold reportSet
  repeat' first
    | with_reducible assumption | with_reducible apply ok_keeps
    | with_reducible apply withLink_keeps (h.mono (by decide))

theorem linkRate_keeps {Q : State → Prop} (h : Closed [.link] Q)
    (code : Nat) {s : State} (hs : Q s) : Q (linkRate code s).state := by
  unfold linkRate
  repeat' first
    | with_reducible assumption | with_reducible apply withLink_keeps (h.mono (by decide))
    | with_reducible apply refuse_keeps | split

theorem reset_keeps {Q : State → Prop} (h : Closed [.link, .enqueue, .serve] Q)
     {s : State} (hs : Q s) : Q (reset s).state := by
  unfold reset
  repeat' first
    | with_reducible assumption | with_reducible apply withLink_keeps (h.mono (by decide))
    | with_reducible apply ok_keeps | with_reducible apply serve_keeps (h.mono (by decide))
    | with_reducible apply enqueue_keeps (h.mono (by decide)) | extract_lets

theorem setMode_keeps {Q : State → Prop} (h : Closed [.power] Q)
    (m : Mode) {s : State} (hs : Q s) : Q (setMode m s) := by
  unfold setMode
  repeat' first | with_reducible assumption | with_reducible apply withPower_keeps (h.mono (by decide))

theorem offerPower_keeps {Q : State → Prop} (h : Closed [.offer] Q)
     {s : State} (hs : Q s) : Q (offerPower s) := by
  unfold offerPower
  repeat' first | with_reducible assumption | with_reducible apply offer_keeps (h.mono (by decide))

theorem blocksSleepEntry_keeps {Q : State → Prop} (h : Closed [.signals, .pulse, .repeater, .senders, .switches,
    .supply, .outputs, .distance, .gauges, .warnings, .chime, .doors, .faults, .handed, .parking, .offer, .request]
    Q)
     {s : State} (hs : Q s) : Q (blocksSleepEntry s) := by
  unfold blocksSleepEntry
  repeat' first
    | with_reducible assumption | (with_reducible apply forEach_keeps; intro _ _ _)
    | with_reducible apply repeaterSleepEntry_keeps (h.mono (by decide))
    | with_reducible apply pulseSleepEntry_keeps (h.mono (by decide))
    | with_reducible apply signalsSleepEntry_keeps (h.mono (by decide))
    | with_reducible apply switchSleepEntry_keeps (h.mono (by decide))
    | with_reducible apply senderSleepEntry_keeps (h.mono (by decide))
    | with_reducible apply warningsSleepEntry_keeps (h.mono (by decide))
    | with_reducible apply gaugeSleepEntry_keeps (h.mono (by decide))
    | with_reducible apply distanceSleepEntry_keeps (h.mono (by decide))
    | with_reducible apply supplySleepEntry_keeps (h.mono (by decide))
    | with_reducible apply serviceSleepEntry_keeps (h.mono (by decide))
    | with_reducible apply outputSleepEntry_keeps (h.mono (by decide))
    | with_reducible apply doorsSleepEntry_keeps (h.mono (by decide))
    | with_reducible apply chimeSleepEntry_keeps (h.mono (by decide)) | extract_lets

theorem completeAfterrun_keeps {Q : State → Prop} (h : Closed [.signals, .pulse, .repeater, .senders, .switches,
    .supply, .outputs, .distance, .gauges, .warnings, .chime, .doors, .faults, .power, .handed, .enqueue, .serve,
    .parking, .offer, .request] Q)
     {s : State} (hs : Q s) : Q (completeAfterrun s) := by
  unfold completeAfterrun
  repeat' first
    | with_reducible assumption | with_reducible apply cycleEnd_keeps (h.mono (by decide))
    | with_reducible apply withPower_keeps (h.mono (by decide))
    | with_reducible apply serve_keeps (h.mono (by decide))
    | with_reducible apply blocksSleepEntry_keeps (h.mono (by decide))
    | with_reducible apply offerPower_keeps (h.mono (by decide))
    | with_reducible apply setMode_keeps (h.mono (by decide)) | extract_lets

theorem settleAfterrun_keeps {Q : State → Prop} (h : Closed [.signals, .pulse, .repeater, .senders, .switches,
    .supply, .outputs, .distance, .gauges, .warnings, .chime, .doors, .faults, .power, .handed, .enqueue, .serve,
    .parking, .offer, .request] Q)
     {s : State} (hs : Q s) : Q (settleAfterrun s) := by
  unfold settleAfterrun
  repeat' first | with_reducible assumption | with_reducible apply completeAfterrun_keeps (h.mono (by decide)) | split

theorem afterrunTimer_keeps {Q : State → Prop} (h : Closed [.signals, .pulse, .repeater, .senders, .switches,
    .supply, .outputs, .distance, .gauges, .warnings, .chime, .doors, .faults, .power, .handed, .enqueue, .serve,
    .parking, .offer, .request] Q)
     {s : State} (hs : Q s) : Q (afterrunTimer s) := by
  unfold afterrunTimer
  repeat' first | with_reducible assumption | with_reducible apply completeAfterrun_keeps (h.mono (by decide)) | split

theorem blocksRunEntry_keeps {Q : State → Prop} (h : Closed [.signals, .pulse, .repeater, .senders, .switches,
    .supply, .outputs, .distance, .gauges, .warnings, .chime, .doors, .faults, .handed, .enqueue, .parking, .offer,
    .request, .gate, .write] Q)
     {s : State} (hs : Q s) : Q (blocksRunEntry s) := by
  unfold blocksRunEntry
  repeat' first
    | with_reducible assumption | (with_reducible apply forEach_keeps; intro _ _ _)
    | with_reducible apply supplyRunEntry_keeps (h.mono (by decide))
    | with_reducible apply switchesRunEntry_keeps (h.mono (by decide))
    | with_reducible apply sendersRunEntry_keeps (h.mono (by decide))
    | with_reducible apply pulseRunEntry_keeps (h.mono (by decide))
    | with_reducible apply signalsRunEntry_keeps (h.mono (by decide))
    | with_reducible apply gaugeRunEntry_keeps (h.mono (by decide))
    | with_reducible apply distanceRunEntry_keeps (h.mono (by decide))
    | with_reducible apply outputRunEntry_keeps (h.mono (by decide))
    | with_reducible apply withChime_keeps (h.mono (by decide))
    | with_reducible apply warningsRunEntry_keeps (h.mono (by decide))
    | with_reducible apply handRequests_keeps (h.mono (by decide))
    | with_reducible apply serviceRunEntry_keeps (h.mono (by decide))
    | with_reducible apply doorsRunEntry_keeps (h.mono (by decide)) | extract_lets

theorem runEntry_keeps {Q : State → Prop} (h : Closed [.signals, .pulse, .repeater, .senders, .switches, .supply,
    .outputs, .distance, .gauges, .warnings, .chime, .doors, .faults, .power, .handed, .enqueue, .serve, .parking,
    .offer, .request, .gate, .write] Q)
     {s : State} (hs : Q s) : Q (runEntry s) := by
  unfold runEntry
  repeat' first
    | with_reducible assumption | with_reducible apply withPower_keeps (h.mono (by decide))
    | with_reducible apply serve_keeps (h.mono (by decide))
    | with_reducible apply offerPower_keeps (h.mono (by decide))
    | with_reducible apply blocksRunEntry_keeps (h.mono (by decide))
    | with_reducible apply enqueue_keeps (h.mono (by decide)) | extract_lets

theorem afterrunEntry_keeps {Q : State → Prop} (h : Closed [.gauges, .doors, .faults, .power, .handed, .enqueue,
    .serve, .parking, .offer, .request, .gate, .write] Q)
     {s : State} (hs : Q s) : Q (afterrunEntry s) := by
  unfold afterrunEntry
  repeat' first
    | with_reducible assumption | (with_reducible apply forEach_keeps; intro _ _ _)
    | with_reducible apply withPower_keeps (h.mono (by decide))
    | with_reducible apply tellParking_keeps (h.mono (by decide))
    | with_reducible apply gaugeAfterrunEntry_keeps (h.mono (by decide))
    | with_reducible apply setService_keeps (h.mono (by decide))
    | with_reducible apply judgeGate_keeps (h.mono (by decide))
    | with_reducible apply decideInterlock_keeps (h.mono (by decide))
    | with_reducible apply serve_keeps (h.mono (by decide))
    | with_reducible apply offerPower_keeps (h.mono (by decide))
    | with_reducible apply enqueue_keeps (h.mono (by decide)) | extract_lets

theorem ignitionReturn_keeps {Q : State → Prop} (h : Closed [.gauges, .doors, .power, .parking, .offer, .request,
    .gate, .write] Q)
     {s : State} (hs : Q s) : Q (ignitionReturn s) := by
  unfold ignitionReturn
  repeat' first
    | with_reducible assumption | (with_reducible apply forEach_keeps; intro _ _ _)
    | with_reducible apply withPower_keeps (h.mono (by decide))
    | with_reducible apply offerPower_keeps (h.mono (by decide))
    | with_reducible apply judgeGate_keeps (h.mono (by decide))
    | with_reducible apply decideInterlock_keeps (h.mono (by decide))
    | with_reducible apply gaugeReturn_keeps (h.mono (by decide)) | extract_lets

theorem ignitionChange_keeps {Q : State → Prop} (h : Closed [.power] Q)
    (on : Bool) {s : State} (hs : Q s) : Q (ignitionChange on s) := by
  unfold ignitionChange
  repeat' first | with_reducible assumption | with_reducible apply withPower_keeps (h.mono (by decide))

theorem ignitionTake_keeps {Q : State → Prop} (h : Closed [.signals, .pulse, .repeater, .senders, .switches,
    .supply, .outputs, .distance, .gauges, .warnings, .chime, .doors, .faults, .power, .handed, .enqueue, .serve,
    .parking, .offer, .request, .gate, .write] Q)
     {s : State} (hs : Q s) : Q (ignitionTake s) := by
  unfold ignitionTake
  repeat' first
    | with_reducible assumption | with_reducible apply withPower_keeps (h.mono (by decide))
    | with_reducible apply runEntry_keeps (h.mono (by decide))
    | with_reducible apply afterrunEntry_keeps (h.mono (by decide))
    | with_reducible apply ignitionReturn_keeps (h.mono (by decide)) | extract_lets | with_reducible apply ite_keeps
    | split

theorem loadFaults_keeps {Q : State → Prop} (h : Closed [.faults, .enqueue, .offer] Q)
     {s : State} (hs : Q s) : Q (loadFaults s) := by
  unfold loadFaults
  repeat' first
    | with_reducible assumption | with_reducible apply State.setFaults_keeps h (by decide)
    | (with_reducible apply foldl_keeps; intro _ _ _) | with_reducible apply faultChanged_keeps (h.mono (by decide))
    | extract_lets | with_reducible apply ite_keeps | split

theorem installConfig_keeps {Q : State → Prop} (h : Closed [.signals, .pulse, .repeater, .senders, .switches,
    .outputs, .gauges, .warnings, .chime, .doors, .faults, .link, .power] Q)
    (im : ConfigImage) (good : Bool) {s : State} (hs : Q s) : Q (installConfig im good s) := by
  have e : installConfig im good s = ((((((((((((s.setSignals (installConfig im good s).signals).setPulse
      (installConfig im good s).pulse).setRepeater (installConfig im good s).repeater).setSenders
      (installConfig im good s).senders).setSwitches (installConfig im good s).switches).setOutputs
      (installConfig im good s).outputs).setGauges (installConfig im good s).gauges).setWarnings
      (installConfig im good s).warnings).setChime (installConfig im good s).chime).setDoors
      (installConfig im good s).doors).setFaults (installConfig im good s).faults).setLink
      (installConfig im good s).link).setPower (installConfig im good s).power := rfl
  rw [e]
  apply h .power (by decide)
  apply h .link (by decide)
  apply h .faults (by decide)
  apply h .doors (by decide)
  apply h .chime (by decide)
  apply h .warnings (by decide)
  apply h .gauges (by decide)
  apply h .outputs (by decide)
  apply h .switches (by decide)
  apply h .senders (by decide)
  apply h .repeater (by decide)
  apply h .pulse (by decide)
  apply h .signals (by decide)
  exact hs

theorem loadConfig_keeps {Q : State → Prop} (h : Closed [.signals, .pulse, .repeater, .senders, .switches, .outputs,
    .gauges, .warnings, .chime, .doors, .faults, .link, .power, .handed] Q)
     {s : State} (hs : Q s) : Q (loadConfig s) := by
  unfold loadConfig
  repeat' first
    | with_reducible assumption | with_reducible apply installConfig_keeps (h.mono (by decide))
    | with_reducible apply reportFault_keeps (h.mono (by decide)) | split

theorem loadCounters_keeps {Q : State → Prop} (h : Closed [.distance, .power, .handed, .enqueue] Q)
     {s : State} (hs : Q s) : Q (loadCounters s) := by
  unfold loadCounters
  repeat' first
    | with_reducible assumption | with_reducible apply State.setDistance_keeps h (by decide)
    | with_reducible apply withPower_keeps (h.mono (by decide))
    | with_reducible apply enqueue_keeps (h.mono (by decide))
    | with_reducible apply reportFault_keeps (h.mono (by decide)) | split

theorem setCycles_keeps {Q : State → Prop} (h : Closed [.doors] Q)
    (counts : Vector Nat 4) {s : State} (hs : Q s) : Q (setCycles counts s) := by
  unfold setCycles
  repeat' first | with_reducible assumption | with_reducible apply State.setDoors_keeps h (by decide)

theorem loadDoorCounts_keeps {Q : State → Prop} (h : Closed [.doors, .handed, .enqueue] Q)
     {s : State} (hs : Q s) : Q (loadDoorCounts s) := by
  unfold loadDoorCounts
  repeat' first
    | with_reducible assumption | with_reducible apply setCycles_keeps (h.mono (by decide))
    | with_reducible apply enqueue_keeps (h.mono (by decide))
    | with_reducible apply reportFault_keeps (h.mono (by decide)) | split

theorem loadAll_keeps {Q : State → Prop} (h : Closed [.signals, .pulse, .repeater, .senders, .switches, .outputs,
    .distance, .gauges, .warnings, .chime, .doors, .faults, .link, .power, .handed, .enqueue, .offer] Q)
     {s : State} (hs : Q s) : Q (loadAll s) := by
  unfold loadAll
  repeat' first
    | with_reducible assumption | with_reducible apply loadDoorCounts_keeps (h.mono (by decide))
    | with_reducible apply loadCounters_keeps (h.mono (by decide))
    | with_reducible apply loadConfig_keeps (h.mono (by decide))
    | with_reducible apply loadFaults_keeps (h.mono (by decide))

theorem readIgnition_keeps {Q : State → Prop} (h : Closed [.signals, .pulse, .repeater, .senders, .switches,
    .supply, .outputs, .distance, .gauges, .warnings, .chime, .doors, .faults, .power, .handed, .enqueue, .serve,
    .parking, .offer, .request, .gate, .write] Q)
     {s : State} (hs : Q s) : Q (readIgnition s) := by
  unfold readIgnition
  repeat' first
    | with_reducible assumption | with_reducible apply withPower_keeps (h.mono (by decide))
    | with_reducible apply runEntry_keeps (h.mono (by decide))
    | with_reducible apply serve_keeps (h.mono (by decide))
    | with_reducible apply offerPower_keeps (h.mono (by decide))
    | with_reducible apply setMode_keeps (h.mono (by decide)) | extract_lets | with_reducible apply ite_keeps
    | split

theorem answerSave_keeps {Q : State → Prop} (h : Closed [.link, .power] Q)
     {s : State} (hs : Q s) : Q (answerSave s) := by
  unfold answerSave
  repeat' first
    | with_reducible assumption | with_reducible apply withPower_keeps (h.mono (by decide))
    | with_reducible apply withLink_keeps (h.mono (by decide)) | extract_lets | split

theorem configWritten_keeps {Q : State → Prop} (h : Closed [.link, .power, .handed] Q)
     {s : State} (hs : Q s) : Q (configWritten s) := by
  unfold configWritten
  repeat' first
    | with_reducible assumption | with_reducible apply answerSave_keeps (h.mono (by decide))
    | with_reducible apply reportFault_keeps (h.mono (by decide))
    | with_reducible apply withPower_keeps (h.mono (by decide))

theorem writeComplete_keeps {Q : State → Prop} (h : Closed [.signals, .pulse, .repeater, .senders, .switches,
    .supply, .outputs, .distance, .gauges, .warnings, .chime, .doors, .faults, .link, .power, .store, .handed,
    .enqueue, .serve, .parking, .offer, .request] Q)
     {s : State} (hs : Q s) : Q (writeComplete s) := by
  unfold writeComplete
  repeat' first
    | with_reducible assumption | with_reducible apply State.setStore_keeps h (by decide)
    | with_reducible apply withPower_keeps (h.mono (by decide))
    | with_reducible apply settleAfterrun_keeps (h.mono (by decide))
    | with_reducible apply serve_keeps (h.mono (by decide))
    | with_reducible apply configWritten_keeps (h.mono (by decide)) | extract_lets | with_reducible apply ite_keeps
    | split

theorem acceptSave_keeps {Q : State → Prop} (h : Closed [.link, .power, .enqueue, .serve] Q)
    (x : Slot) (tag : Tag32) {s : State} (hs : Q s) : Q (acceptSave x tag s) := by
  unfold acceptSave
  repeat' first
    | with_reducible assumption | with_reducible apply withPower_keeps (h.mono (by decide))
    | with_reducible apply withLink_keeps (h.mono (by decide))
    | with_reducible apply serve_keeps (h.mono (by decide))
    | with_reducible apply enqueue_keeps (h.mono (by decide)) | extract_lets

theorem configSave_keeps {Q : State → Prop} (h : Closed [.link, .power, .enqueue, .serve, .reply] Q)
    (b : BodyForm) (tag : Tag32) {s : State} (hs : Q s) : Q (configSave b tag s) := by
  unfold configSave
  repeat' first
    | with_reducible assumption | with_reducible apply acceptSave_keeps (h.mono (by decide))
    | (with_reducible apply handle_keeps (h.mono (by decide)); intro _) | (with_reducible apply checked_keeps)
    | with_reducible apply refuse_keeps | split

theorem defaultsInputs_keeps {Q : State → Prop} (h : Closed [.signals, .pulse, .repeater, .senders, .switches,
    .distance, .doors, .faults, .handed, .offer, .request, .gate, .write] Q)
     {s : State} (hs : Q s) : Q (defaultsInputs s) := by
  unfold defaultsInputs
  repeat' first
    | with_reducible assumption | with_reducible apply State.setRepeater_keeps h (by decide)
    | (with_reducible apply forEach_keeps; intro _ _ _)
    | with_reducible apply applySigConfig_keeps (h.mono (by decide))
    | with_reducible apply applyPulseConfig_keeps (h.mono (by decide))
    | with_reducible apply retarget_keeps (h.mono (by decide))
    | with_reducible apply applySenderConfig_keeps (h.mono (by decide))
    | with_reducible apply takeSwitchConfig_keeps (h.mono (by decide)) | extract_lets

theorem defaultsChime_keeps {Q : State → Prop} (h : Closed [.chime] Q)
     {s : State} (hs : Q s) : Q (defaultsChime s) := by
  unfold defaultsChime
  repeat' first | with_reducible assumption | with_reducible apply State.setChime_keeps h (by decide)

theorem defaultsOutputs_keeps {Q : State → Prop} (h : Closed [.outputs, .gauges, .warnings, .chime, .doors, .handed,
    .enqueue, .serve, .parking, .offer, .request, .write] Q)
     {s : State} (hs : Q s) : Q (defaultsOutputs s) := by
  unfold defaultsOutputs
  repeat' first
    | with_reducible assumption | with_reducible apply State.setDoors_keeps h (by decide)
    | (with_reducible apply forEach_keeps; intro _ _ _) | with_reducible apply applyOwner_keeps (h.mono (by decide))
    | with_reducible apply applyGaugeConfig_keeps (h.mono (by decide))
    | with_reducible apply defaultsChime_keeps (h.mono (by decide))
    | with_reducible apply applyWarningConfig_keeps (h.mono (by decide))
    | with_reducible apply applyDoorConfig_keeps (h.mono (by decide))
    | with_reducible apply applyPolicy_keeps (h.mono (by decide)) | extract_lets

theorem configDefaults_keeps {Q : State → Prop} (h : Closed [.signals, .pulse, .repeater, .senders, .switches,
    .outputs, .distance, .gauges, .warnings, .chime, .doors, .faults, .link, .power, .handed, .enqueue, .serve,
    .parking, .offer, .request, .gate, .write] Q)
     {s : State} (hs : Q s) : Q (configDefaults s).state := by
  unfold configDefaults
  repeat' first
    | with_reducible assumption | with_reducible apply State.setFaults_keeps h (by decide)
    | with_reducible apply defaultsOutputs_keeps (h.mono (by decide))
    | with_reducible apply defaultsInputs_keeps (h.mono (by decide))
    | with_reducible apply withLink_keeps (h.mono (by decide)) | with_reducible apply ok_keeps
    | with_reducible apply withPower_keeps (h.mono (by decide)) | extract_lets

end Sys2Proof.Machine
end

