-- ==== Sys2Proof/Laws/CommandFrames.lean ====
section
/-!
SUPPORT. What each command can change (`Frames` for commands): every command but a start and a brown-out answers a next
state, and keeps each property that survives updates of the blocks named.
-/
namespace Sys2Proof.Machine

theorem execIgnitionChange_keeps {Q : State → Prop} (h : Closed [.power, .clock] Q)
    (on : Bool) (τ : Nat) {s : State} (hs : Q s) :
    ∃ t, execIgnitionChange on τ s = .next t ∧ Q t := by
  refine ⟨_, rfl, ?_⟩
  repeat' first
    | with_reducible assumption | with_reducible apply ignitionChange_keeps (h.mono (by decide))
    | with_reducible apply advance_keeps (h.mono (by decide))

theorem execIgnitionFilterExpiry_keeps {Q : State → Prop} (h : Closed [.signals, .pulse, .repeater, .senders,
    .switches, .supply, .outputs, .distance, .gauges, .warnings, .chime, .doors, .faults, .power, .handed, .clock,
    .enqueue, .serve, .parking, .offer, .request, .gate, .write] Q)
    (τ : Nat) {s : State} (hs : Q s) :
    ∃ t, execIgnitionFilterExpiry τ s = .next t ∧ Q t := by
  refine ⟨_, rfl, ?_⟩
  repeat' first
    | with_reducible assumption | with_reducible apply ignitionTake_keeps (h.mono (by decide))
    | with_reducible apply advance_keeps (h.mono (by decide))

theorem execAfterrunTimerExpiry_keeps {Q : State → Prop} (h : Closed [.signals, .pulse, .repeater, .senders,
    .switches, .supply, .outputs, .distance, .gauges, .warnings, .chime, .doors, .faults, .power, .handed, .enqueue,
    .serve, .parking, .offer, .request] Q)
     {s : State} (hs : Q s) :
    ∃ t, execAfterrunTimerExpiry s = .next t ∧ Q t := by
  refine ⟨_, rfl, ?_⟩
  repeat' first | with_reducible assumption | with_reducible apply afterrunTimer_keeps (h.mono (by decide))

theorem execStoreWriteComplete_keeps {Q : State → Prop} (h : Closed [.signals, .pulse, .repeater, .senders,
    .switches, .supply, .outputs, .distance, .gauges, .warnings, .chime, .doors, .faults, .link, .power, .store,
    .handed, .enqueue, .serve, .parking, .offer, .request] Q)
     {s : State} (hs : Q s) :
    ∃ t, execStoreWriteComplete s = .next t ∧ Q t := by
  refine ⟨_, rfl, ?_⟩
  repeat' first | with_reducible assumption | with_reducible apply writeComplete_keeps (h.mono (by decide))

theorem execConfigSave_keeps {Q : State → Prop} (h : Closed [.link, .power, .enqueue, .serve, .reply] Q)
    (b : BodyForm) (tag : Tag32) {s : State} (hs : Q s) :
    ∃ t, execConfigSave b tag s = .next t ∧ Q t := by
  refine ⟨_, rfl, ?_⟩
  repeat' first | with_reducible assumption | with_reducible apply configSave_keeps (h.mono (by decide))

theorem execConfigDefaults_keeps {Q : State → Prop} (h : Closed [.signals, .pulse, .repeater, .senders, .switches,
    .supply, .outputs, .distance, .gauges, .warnings, .chime, .doors, .faults, .link, .power, .handed, .enqueue,
    .serve, .parking, .offer, .reply, .request, .gate, .write] Q)
     {s : State} (hs : Q s) :
    ∃ t, execConfigDefaults s = .next t ∧ Q t := by
  refine ⟨_, rfl, ?_⟩
  repeat' first
    | with_reducible assumption | with_reducible apply settleAfterrun_keeps (h.mono (by decide))
    | (with_reducible apply handle_keeps (h.mono (by decide)); intro _) | with_reducible apply bare_keeps
    | with_reducible apply configDefaults_keeps (h.mono (by decide))

theorem execReceivedFrame_keeps {Q : State → Prop} (h : Closed [.link, .clock] Q)
    (bytes : List Byte) (τ : Nat) {s : State} (hs : Q s) :
    ∃ t, execReceivedFrame bytes τ s = .next t ∧ Q t := by
  refine ⟨_, rfl, ?_⟩
  repeat' first
    | with_reducible assumption | (with_reducible apply whenPowered_keeps; intro _)
    | with_reducible apply withLink_keeps (h.mono (by decide))
    | with_reducible apply advance_keeps (h.mono (by decide))

theorem execFrameGapTimeout_keeps {Q : State → Prop} (h : Closed [.link] Q)
     {s : State} (hs : Q s) :
    ∃ t, execFrameGapTimeout s = .next t ∧ Q t := by
  refine ⟨_, rfl, ?_⟩
  repeat' first
    | with_reducible assumption | (with_reducible apply whenPowered_keeps; intro _)
    | with_reducible apply withLink_keeps (h.mono (by decide))

theorem execTransmitStart_keeps {Q : State → Prop} (h : Closed [.link] Q)
     {s : State} (hs : Q s) :
    ∃ t, execTransmitStart s = .next t ∧ Q t := by
  refine ⟨_, rfl, ?_⟩
  repeat' first
    | with_reducible assumption | (with_reducible apply whenPowered_keeps; intro _)
    | with_reducible apply withLink_keeps (h.mono (by decide))

theorem execFrameSent_keeps {Q : State → Prop} (h : Closed [.link] Q)
     {s : State} (hs : Q s) :
    ∃ t, execFrameSent s = .next t ∧ Q t := by
  refine ⟨_, rfl, ?_⟩
  repeat' first
    | with_reducible assumption | (with_reducible apply whenPowered_keeps; intro _)
    | with_reducible apply withLink_keeps (h.mono (by decide))

theorem execUnknownKind_keeps {Q : State → Prop} (h : Closed [.link] Q)
     {s : State} (hs : Q s) :
    ∃ t, execUnknownKind s = .next t ∧ Q t := by
  refine ⟨_, rfl, ?_⟩
  repeat' first | with_reducible assumption | with_reducible apply unknownKind_keeps (h.mono (by decide))

theorem execIdentify_keeps {Q : State → Prop} (h : Closed [.reply] Q)
     {s : State} (hs : Q s) :
    ∃ t, execIdentify s = .next t ∧ Q t := by
  refine ⟨_, rfl, ?_⟩
  repeat' first
    | with_reducible assumption | (with_reducible apply handle_keeps (h.mono (by decide)); intro _)
    | with_reducible apply bare_keeps | with_reducible apply identify_keeps

theorem execStatus_keeps {Q : State → Prop} (h : Closed [.link, .reply] Q)
     {s : State} (hs : Q s) :
    ∃ t, execStatus s = .next t ∧ Q t := by
  refine ⟨_, rfl, ?_⟩
  repeat' first
    | with_reducible assumption | (with_reducible apply handle_keeps (h.mono (by decide)); intro _)
    | with_reducible apply bare_keeps | with_reducible apply status_keeps (h.mono (by decide))

theorem execReportSet_keeps {Q : State → Prop} (h : Closed [.link, .reply] Q)
    (b : BodyForm) (marks : BitVec 16) {s : State} (hs : Q s) :
    ∃ t, execReportSet b marks s = .next t ∧ Q t := by
  refine ⟨_, rfl, ?_⟩
  repeat' first
    | with_reducible assumption | (with_reducible apply handle_keeps (h.mono (by decide)); intro _)
    | with_reducible apply checked_keeps | with_reducible apply reportSet_keeps (h.mono (by decide))

theorem execReset_keeps {Q : State → Prop} (h : Closed [.link, .enqueue, .serve, .reply] Q)
     {s : State} (hs : Q s) :
    ∃ t, execReset s = .next t ∧ Q t := by
  refine ⟨_, rfl, ?_⟩
  repeat' first
    | with_reducible assumption | (with_reducible apply handle_keeps (h.mono (by decide)); intro _)
    | with_reducible apply bare_keeps | with_reducible apply reset_keeps (h.mono (by decide))

theorem execLinkRate_keeps {Q : State → Prop} (h : Closed [.link, .reply] Q)
    (b : BodyForm) (code : Nat) {s : State} (hs : Q s) :
    ∃ t, execLinkRate b code s = .next t ∧ Q t := by
  refine ⟨_, rfl, ?_⟩
  repeat' first
    | with_reducible assumption | (with_reducible apply handle_keeps (h.mono (by decide)); intro _)
    | with_reducible apply checked_keeps | with_reducible apply linkRate_keeps (h.mono (by decide))

theorem execBadStopBit_keeps {Q : State → Prop} (h : Closed [.link] Q)
     {s : State} (hs : Q s) :
    ∃ t, execBadStopBit s = .next t ∧ Q t := by
  refine ⟨_, rfl, ?_⟩
  repeat' first
    | with_reducible assumption | (with_reducible apply whenPowered_keeps; intro _)
    | with_reducible apply withLink_keeps (h.mono (by decide))

theorem execSignalRead_keeps {Q : State → Prop} (h : Closed [.reply] Q)
     {s : State} (hs : Q s) :
    ∃ t, execSignalRead s = .next t ∧ Q t := by
  refine ⟨_, rfl, ?_⟩
  repeat' first
    | with_reducible assumption | (with_reducible apply handle_keeps (h.mono (by decide)); intro _)
    | with_reducible apply signalRead_keeps

theorem execSignalPut_keeps {Q : State → Prop} (h : Closed [.signals, .handed, .offer, .reply, .gate] Q)
    (b : BodyForm) (signal : Nat) (value : Int) (quality : PutQuality) {s : State} (hs : Q s) :
    ∃ t, execSignalPut b signal value quality s = .next t ∧ Q t := by
  refine ⟨_, rfl, ?_⟩
  repeat' first
    | with_reducible assumption | (with_reducible apply handle_keeps (h.mono (by decide)); intro _)
    | with_reducible apply checked_keeps | with_reducible apply signalPut_keeps (h.mono (by decide))

theorem execSignalConfig_keeps {Q : State → Prop} (h : Closed [.signals, .handed, .offer, .reply, .gate] Q)
    (b : BodyForm) (signal : Nat) (cfg : SigCfg) {s : State} (hs : Q s) :
    ∃ t, execSignalConfig b signal cfg s = .next t ∧ Q t := by
  refine ⟨_, rfl, ?_⟩
  repeat' first
    | with_reducible assumption | (with_reducible apply handle_keeps (h.mono (by decide)); intro _)
    | with_reducible apply checked_keeps | with_reducible apply signalConfig_keeps (h.mono (by decide))

theorem execSignalClearFlags_keeps {Q : State → Prop} (h : Closed [.signals, .reply] Q)
    (b : BodyForm) (signal : Option Nat) (flags : SigFlags) {s : State} (hs : Q s) :
    ∃ t, execSignalClearFlags b signal flags s = .next t ∧ Q t := by
  refine ⟨_, rfl, ?_⟩
  repeat' first
    | with_reducible assumption | (with_reducible apply handle_keeps (h.mono (by decide)); intro _)
    | with_reducible apply checked_keeps | with_reducible apply signalClearFlags_keeps (h.mono (by decide))

theorem execSignalForce_keeps {Q : State → Prop} (h : Closed [.signals, .handed, .offer, .reply, .gate] Q)
    (b : BodyForm) (signal : Nat) (value : Int) {s : State} (hs : Q s) :
    ∃ t, execSignalForce b signal value s = .next t ∧ Q t := by
  refine ⟨_, rfl, ?_⟩
  repeat' first
    | with_reducible assumption | (with_reducible apply handle_keeps (h.mono (by decide)); intro _)
    | with_reducible apply checked_keeps | with_reducible apply signalForce_keeps (h.mono (by decide))

theorem execSignalRelease_keeps {Q : State → Prop} (h : Closed [.reply, .write] Q)
    (b : BodyForm) (signal : Nat) {s : State} (hs : Q s) :
    ∃ t, execSignalRelease b signal s = .next t ∧ Q t := by
  refine ⟨_, rfl, ?_⟩
  repeat' first
    | with_reducible assumption | (with_reducible apply handle_keeps (h.mono (by decide)); intro _)
    | with_reducible apply checked_keeps | with_reducible apply signalRelease_keeps (h.mono (by decide))

theorem execSignalAgeTick_keeps {Q : State → Prop} (h : Closed [.signals, .handed, .offer, .gate] Q)
     {s : State} (hs : Q s) :
    ∃ t, execSignalAgeTick s = .next t ∧ Q t := by
  refine ⟨_, rfl, ?_⟩
  repeat' first
    | with_reducible assumption | (with_reducible apply whenActive_keeps; intro _)
    | with_reducible apply ageTick_keeps (h.mono (by decide))

theorem execHoldExpiry_keeps {Q : State → Prop} (h : Closed [.signals, .handed, .offer, .gate] Q)
    (signal : Fin 64) {s : State} (hs : Q s) :
    ∃ t, execHoldExpiry signal s = .next t ∧ Q t := by
  refine ⟨_, rfl, ?_⟩
  repeat' first | with_reducible assumption | with_reducible apply holdExpiry_keeps (h.mono (by decide))

theorem execRefreshExpiry_keeps {Q : State → Prop} (h : Closed [.signals, .handed, .offer, .gate] Q)
    (slot : Fin 12) {s : State} (hs : Q s) :
    ∃ t, execRefreshExpiry slot s = .next t ∧ Q t := by
  refine ⟨_, rfl, ?_⟩
  repeat' first | with_reducible assumption | with_reducible apply refreshExpiry_keeps (h.mono (by decide))

theorem execPulseConfig_keeps {Q : State → Prop} (h : Closed [.pulse, .distance, .handed, .reply, .write] Q)
    (b : BodyForm) (channel : Nat) (cfg : PulseCfg) {s : State} (hs : Q s) :
    ∃ t, execPulseConfig b channel cfg s = .next t ∧ Q t := by
  refine ⟨_, rfl, ?_⟩
  repeat' first
    | with_reducible assumption | (with_reducible apply handle_keeps (h.mono (by decide)); intro _)
    | with_reducible apply checked_keeps | with_reducible apply pulseConfig_keeps (h.mono (by decide))

theorem execPulseLogRead_keeps {Q : State → Prop} (h : Closed [.pulse, .reply] Q)
    (b : BodyForm) (channel : Nat) {s : State} (hs : Q s) :
    ∃ t, execPulseLogRead b channel s = .next t ∧ Q t := by
  refine ⟨_, rfl, ?_⟩
  repeat' first
    | with_reducible assumption | (with_reducible apply handle_keeps (h.mono (by decide)); intro _)
    | with_reducible apply checked_keeps | with_reducible apply pulseLogRead_keeps (h.mono (by decide))

theorem execRepeaterConfig_keeps {Q : State → Prop} (h : Closed [.repeater, .reply] Q)
    (b : BodyForm) (kOut : Nat) {s : State} (hs : Q s) :
    ∃ t, execRepeaterConfig b kOut s = .next t ∧ Q t := by
  refine ⟨_, rfl, ?_⟩
  repeat' first
    | with_reducible assumption | (with_reducible apply handle_keeps (h.mono (by decide)); intro _)
    | with_reducible apply checked_keeps | with_reducible apply repeaterConfig_keeps (h.mono (by decide))

theorem execPulseTransition_keeps {Q : State → Prop} (h : Closed [.pulse, .handed, .clock] Q)
    (channel : Fin 4) (high : Bool) (τ : Nat) {s : State} (hs : Q s) :
    ∃ t, execPulseTransition channel high τ s = .next t ∧ Q t := by
  refine ⟨_, rfl, ?_⟩
  repeat' first
    | with_reducible assumption | with_reducible apply pulseTransition_keeps (h.mono (by decide))
    | with_reducible apply advance_keeps (h.mono (by decide))

theorem execQualificationExpiry_keeps {Q : State → Prop} (h : Closed [.pulse, .handed, .clock] Q)
    (channel : Fin 4) {s : State} (hs : Q s) :
    ∃ t, execQualificationExpiry channel s = .next t ∧ Q t := by
  refine ⟨_, rfl, ?_⟩
  repeat' first | with_reducible assumption | with_reducible apply qualificationExpiry_keeps (h.mono (by decide))

theorem execWindowExpiry_keeps {Q : State → Prop} (h : Closed [.pulse, .handed, .clock, .write] Q)
    (channel : Fin 4) (τ : Nat) {s : State} (hs : Q s) :
    ∃ t, execWindowExpiry channel τ s = .next t ∧ Q t := by
  refine ⟨_, rfl, ?_⟩
  repeat' first
    | with_reducible assumption | with_reducible apply windowExpiry_keeps (h.mono (by decide))
    | with_reducible apply advance_keeps (h.mono (by decide))

theorem execBiasCheckExpiry_keeps {Q : State → Prop} (h : Closed [.pulse, .handed, .clock, .write] Q)
    (channel : Fin 4) (band : Band) (τ : Nat) {s : State} (hs : Q s) :
    ∃ t, execBiasCheckExpiry channel band τ s = .next t ∧ Q t := by
  refine ⟨_, rfl, ?_⟩
  repeat' first
    | with_reducible assumption | with_reducible apply biasCheck_keeps (h.mono (by decide))
    | with_reducible apply advance_keeps (h.mono (by decide))

theorem execRepeaterTarget_keeps {Q : State → Prop} (h : Closed [.repeater, .handed] Q)
     {s : State} (hs : Q s) :
    ∃ t, execRepeaterTarget s = .next t ∧ Q t := by
  refine ⟨_, rfl, ?_⟩
  repeat' first
    | with_reducible assumption | (with_reducible apply taking_keeps (h.mono (by decide)); intro _ _)
    | with_reducible apply retarget_keeps (h.mono (by decide))

theorem execRepeaterHalfCycleEnd_keeps {Q : State → Prop} (h : Closed [.repeater] Q)
     {s : State} (hs : Q s) :
    ∃ t, execRepeaterHalfCycleEnd s = .next t ∧ Q t := by
  refine ⟨_, rfl, ?_⟩
  repeat' first | with_reducible assumption | with_reducible apply State.setRepeater_keeps h (by decide)

theorem execSenderConfig_keeps {Q : State → Prop} (h : Closed [.senders, .handed, .reply, .write] Q)
    (b : BodyForm) (channel : Nat) (cfg : SenderCfg) {s : State} (hs : Q s) :
    ∃ t, execSenderConfig b channel cfg s = .next t ∧ Q t := by
  refine ⟨_, rfl, ?_⟩
  repeat' first
    | with_reducible assumption | (with_reducible apply handle_keeps (h.mono (by decide)); intro _)
    | with_reducible apply checked_keeps | with_reducible apply senderConfig_keeps (h.mono (by decide))

theorem execSenderSampleExpiry_keeps {Q : State → Prop} (h : Closed [.senders, .handed, .clock, .write] Q)
    (channel : Fin 12) (raw : Nat) (τ : Nat) {s : State} (hs : Q s) :
    ∃ t, execSenderSampleExpiry channel raw τ s = .next t ∧ Q t := by
  refine ⟨_, rfl, ?_⟩
  repeat' first
    | with_reducible assumption | with_reducible apply senderSample_keeps (h.mono (by decide))
    | with_reducible apply advance_keeps (h.mono (by decide))

theorem execSwitchConfig_keeps {Q : State → Prop} (h : Closed [.switches, .doors, .faults, .handed, .offer, .reply,
    .request, .write] Q)
    (b : BodyForm) (input : Nat) (cfg : SwitchCfg) {s : State} (hs : Q s) :
    ∃ t, execSwitchConfig b input cfg s = .next t ∧ Q t := by
  refine ⟨_, rfl, ?_⟩
  repeat' first
    | with_reducible assumption | (with_reducible apply handle_keeps (h.mono (by decide)); intro _)
    | with_reducible apply checked_keeps | with_reducible apply switchConfig_keeps (h.mono (by decide))

theorem execSwitchSampleExpiry_keeps {Q : State → Prop} (h : Closed [.switches, .handed, .clock, .write] Q)
    (input : Fin 24) (high : Bool) (raw : Nat) (τ : Nat) {s : State} (hs : Q s) :
    ∃ t, execSwitchSampleExpiry input high raw τ s = .next t ∧ Q t := by
  refine ⟨_, rfl, ?_⟩
  repeat' first
    | with_reducible assumption | with_reducible apply switchSample_keeps (h.mono (by decide))
    | with_reducible apply advance_keeps (h.mono (by decide))

theorem execSwitchRefreshExpiry_keeps {Q : State → Prop} (h : Closed [.write] Q)
    (input : Fin 24) {s : State} (hs : Q s) :
    ∃ t, execSwitchRefreshExpiry input s = .next t ∧ Q t := by
  refine ⟨_, rfl, ?_⟩
  repeat' first | with_reducible assumption | with_reducible apply switchRefresh_keeps (h.mono (by decide))

theorem execSupplyMeasure_keeps {Q : State → Prop} (h : Closed [.signals, .pulse, .repeater, .senders, .switches,
    .supply, .outputs, .distance, .gauges, .warnings, .chime, .doors, .faults, .power, .handed, .clock, .enqueue,
    .serve, .parking, .offer, .request, .write] Q)
    (mV : Nat) (τ : Nat) {s : State} (hs : Q s) :
    ∃ t, execSupplyMeasure mV τ s = .next t ∧ Q t := by
  refine ⟨_, rfl, ?_⟩
  repeat' first
    | with_reducible assumption | with_reducible apply settleAfterrun_keeps (h.mono (by decide))
    | with_reducible apply supplyMeasure_keeps (h.mono (by decide))
    | with_reducible apply advance_keeps (h.mono (by decide))

theorem execUnderVoltageReportExpiry_keeps {Q : State → Prop} (h : Closed [.supply, .handed] Q)
     {s : State} (hs : Q s) :
    ∃ t, execUnderVoltageReportExpiry s = .next t ∧ Q t := by
  refine ⟨_, rfl, ?_⟩
  repeat' first | with_reducible assumption | with_reducible apply underVoltageReport_keeps (h.mono (by decide))

theorem execOutputConfig_keeps {Q : State → Prop} (h : Closed [.outputs, .handed, .offer, .reply] Q)
    (b : BodyForm) (output : Nat) (owner : Owner) {s : State} (hs : Q s) :
    ∃ t, execOutputConfig b output owner s = .next t ∧ Q t := by
  refine ⟨_, rfl, ?_⟩
  repeat' first
    | with_reducible assumption | (with_reducible apply handle_keeps (h.mono (by decide)); intro _)
    | with_reducible apply checked_keeps | with_reducible apply outputConfig_keeps (h.mono (by decide))

theorem execOutputRead_keeps {Q : State → Prop} (h : Closed [.reply] Q)
     {s : State} (hs : Q s) :
    ∃ t, execOutputRead s = .next t ∧ Q t := by
  refine ⟨_, rfl, ?_⟩
  repeat' first
    | with_reducible assumption | (with_reducible apply handle_keeps (h.mono (by decide)); intro _)
    | with_reducible apply bare_keeps | with_reducible apply outputRead_keeps

theorem execOutputForce_keeps {Q : State → Prop} (h : Closed [.outputs, .handed, .offer, .reply] Q)
    (b : BodyForm) (output : Nat) (on : Bool) {s : State} (hs : Q s) :
    ∃ t, execOutputForce b output on s = .next t ∧ Q t := by
  refine ⟨_, rfl, ?_⟩
  repeat' first
    | with_reducible assumption | (with_reducible apply handle_keeps (h.mono (by decide)); intro _)
    | with_reducible apply checked_keeps | with_reducible apply outputForce_keeps (h.mono (by decide))

theorem execOutputForceRelease_keeps {Q : State → Prop} (h : Closed [.outputs, .handed, .offer, .reply] Q)
    (b : BodyForm) (output : Nat) {s : State} (hs : Q s) :
    ∃ t, execOutputForceRelease b output s = .next t ∧ Q t := by
  refine ⟨_, rfl, ?_⟩
  repeat' first
    | with_reducible assumption | (with_reducible apply handle_keeps (h.mono (by decide)); intro _)
    | with_reducible apply checked_keeps | with_reducible apply outputForceRelease_keeps (h.mono (by decide))

theorem execOutputOvercurrent_keeps {Q : State → Prop} (h : Closed [.outputs, .handed, .offer] Q)
    (output : Fin 16) {s : State} (hs : Q s) :
    ∃ t, execOutputOvercurrent output s = .next t ∧ Q t := by
  refine ⟨_, rfl, ?_⟩
  repeat' first | with_reducible assumption | with_reducible apply overcurrent_keeps (h.mono (by decide))

theorem execOutputSenseExpiry_keeps {Q : State → Prop} (h : Closed [.outputs, .handed, .clock, .offer] Q)
    (output : Fin 16) (reading : LineReading) (τ : Nat) {s : State} (hs : Q s) :
    ∃ t, execOutputSenseExpiry output reading τ s = .next t ∧ Q t := by
  refine ⟨_, rfl, ?_⟩
  repeat' first
    | with_reducible assumption | with_reducible apply senseExpiry_keeps (h.mono (by decide))
    | with_reducible apply advance_keeps (h.mono (by decide))

theorem execOutputRetryExpiry_keeps {Q : State → Prop} (h : Closed [.outputs, .handed, .offer] Q)
    (output : Fin 16) {s : State} (hs : Q s) :
    ∃ t, execOutputRetryExpiry output s = .next t ∧ Q t := by
  refine ⟨_, rfl, ?_⟩
  repeat' first | with_reducible assumption | with_reducible apply retryExpiry_keeps (h.mono (by decide))

theorem execOutputProvingExpiry_keeps {Q : State → Prop} (h : Closed [.outputs, .handed, .offer] Q)
    (output : Fin 16) {s : State} (hs : Q s) :
    ∃ t, execOutputProvingExpiry output s = .next t ∧ Q t := by
  refine ⟨_, rfl, ?_⟩
  repeat' first | with_reducible assumption | with_reducible apply provingExpiry_keeps (h.mono (by decide))

theorem execOutputServiceChange_keeps {Q : State → Prop} (h : Closed [.outputs, .handed, .offer] Q)
    (on : Bool) {s : State} (hs : Q s) :
    ∃ t, execOutputServiceChange on s = .next t ∧ Q t := by
  refine ⟨_, rfl, ?_⟩
  repeat' first
    | with_reducible assumption | (with_reducible apply taking_keeps (h.mono (by decide)); intro _ _)
    | with_reducible apply outputServiceChange_keeps (h.mono (by decide))

theorem execDistanceHandoff_keeps {Q : State → Prop} (h : Closed [.distance, .handed, .enqueue, .serve, .write] Q)
    (n : Nat) {s : State} (hs : Q s) :
    ∃ t, execDistanceHandoff n s = .next t ∧ Q t := by
  refine ⟨_, rfl, ?_⟩
  repeat' first
    | with_reducible assumption | (with_reducible apply taking_keeps (h.mono (by decide)); intro _ _)
    | with_reducible apply distanceHandoff_keeps (h.mono (by decide))

theorem execDistanceRead_keeps {Q : State → Prop} (h : Closed [.reply] Q)
     {s : State} (hs : Q s) :
    ∃ t, execDistanceRead s = .next t ∧ Q t := by
  refine ⟨_, rfl, ?_⟩
  repeat' first
    | with_reducible assumption | (with_reducible apply handle_keeps (h.mono (by decide)); intro _)
    | with_reducible apply bare_keeps | with_reducible apply distanceRead_keeps

theorem execTripReset_keeps {Q : State → Prop} (h : Closed [.distance, .enqueue, .serve, .reply] Q)
    (b : BodyForm) (trip : Trip) {s : State} (hs : Q s) :
    ∃ t, execTripReset b trip s = .next t ∧ Q t := by
  refine ⟨_, rfl, ?_⟩
  repeat' first
    | with_reducible assumption | (with_reducible apply handle_keeps (h.mono (by decide)); intro _)
    | with_reducible apply checked_keeps | with_reducible apply tripReset_keeps (h.mono (by decide))

theorem execOdometerSet_keeps {Q : State → Prop} (h : Closed [.distance, .handed, .enqueue, .serve, .reply] Q)
    (b : BodyForm) (tenths : Nat) {s : State} (hs : Q s) :
    ∃ t, execOdometerSet b tenths s = .next t ∧ Q t := by
  refine ⟨_, rfl, ?_⟩
  repeat' first
    | with_reducible assumption | (with_reducible apply handle_keeps (h.mono (by decide)); intro _)
    | with_reducible apply checked_keeps | with_reducible apply odometerSet_keeps (h.mono (by decide))

theorem execServiceIntervalSet_keeps {Q : State → Prop} (h : Closed [.distance, .enqueue, .serve, .reply, .write] Q)
    (b : BodyForm) (km : Int) {s : State} (hs : Q s) :
    ∃ t, execServiceIntervalSet b km s = .next t ∧ Q t := by
  refine ⟨_, rfl, ?_⟩
  repeat' first
    | with_reducible assumption | (with_reducible apply handle_keeps (h.mono (by decide)); intro _)
    | with_reducible apply checked_keeps | with_reducible apply serviceIntervalSet_keeps (h.mono (by decide))

theorem execServiceDistanceRefresh_keeps {Q : State → Prop} (h : Closed [.write] Q)
     {s : State} (hs : Q s) :
    ∃ t, execServiceDistanceRefresh s = .next t ∧ Q t := by
  refine ⟨_, rfl, ?_⟩
  repeat' first | with_reducible assumption | with_reducible apply serviceDistanceRefresh_keeps (h.mono (by decide))

theorem execHoursTick_keeps {Q : State → Prop} (h : Closed [.distance, .enqueue, .serve] Q)
     {s : State} (hs : Q s) :
    ∃ t, execHoursTick s = .next t ∧ Q t := by
  refine ⟨_, rfl, ?_⟩
  repeat' first | with_reducible assumption | with_reducible apply hoursTick_keeps (h.mono (by decide))

theorem execHoursTenth_keeps {Q : State → Prop} (h : Closed [.distance, .enqueue, .serve] Q)
     {s : State} (hs : Q s) :
    ∃ t, execHoursTenth s = .next t ∧ Q t := by
  refine ⟨_, rfl, ?_⟩
  repeat' first | with_reducible assumption | with_reducible apply hoursTenth_keeps (h.mono (by decide))

theorem execGaugeConfig_keeps {Q : State → Prop} (h : Closed [.signals, .pulse, .repeater, .senders, .switches,
    .supply, .outputs, .distance, .gauges, .warnings, .chime, .doors, .faults, .power, .handed, .enqueue, .serve,
    .parking, .offer, .reply, .request] Q)
    (b : BodyForm) (gauge : Nat) (cfg : GaugeCfg) {s : State} (hs : Q s) :
    ∃ t, execGaugeConfig b gauge cfg s = .next t ∧ Q t := by
  refine ⟨_, rfl, ?_⟩
  repeat' first
    | with_reducible assumption | with_reducible apply settleAfterrun_keeps (h.mono (by decide))
    | (with_reducible apply handle_keeps (h.mono (by decide)); intro _) | with_reducible apply checked_keeps
    | with_reducible apply gaugeConfig_keeps (h.mono (by decide))

theorem execGaugeRead_keeps {Q : State → Prop} (h : Closed [.reply] Q)
     {s : State} (hs : Q s) :
    ∃ t, execGaugeRead s = .next t ∧ Q t := by
  refine ⟨_, rfl, ?_⟩
  repeat' first
    | with_reducible assumption | (with_reducible apply handle_keeps (h.mono (by decide)); intro _)
    | with_reducible apply bare_keeps | with_reducible apply gaugeRead_keeps

theorem execGaugeTestSet_keeps {Q : State → Prop} (h : Closed [.signals, .pulse, .repeater, .senders, .switches,
    .supply, .outputs, .distance, .gauges, .warnings, .chime, .doors, .faults, .power, .handed, .enqueue, .serve,
    .parking, .offer, .reply, .request] Q)
    (b : BodyForm) (gauge : Nat) (position : Nat) {s : State} (hs : Q s) :
    ∃ t, execGaugeTestSet b gauge position s = .next t ∧ Q t := by
  refine ⟨_, rfl, ?_⟩
  repeat' first
    | with_reducible assumption | with_reducible apply settleAfterrun_keeps (h.mono (by decide))
    | (with_reducible apply handle_keeps (h.mono (by decide)); intro _) | with_reducible apply checked_keeps
    | with_reducible apply gaugeTestSet_keeps (h.mono (by decide))

theorem execGaugeTestEnd_keeps {Q : State → Prop} (h : Closed [.signals, .pulse, .repeater, .senders, .switches,
    .supply, .outputs, .distance, .gauges, .warnings, .chime, .doors, .faults, .power, .handed, .enqueue, .serve,
    .parking, .offer, .reply, .request] Q)
    (b : BodyForm) (gauge : Nat) {s : State} (hs : Q s) :
    ∃ t, execGaugeTestEnd b gauge s = .next t ∧ Q t := by
  refine ⟨_, rfl, ?_⟩
  repeat' first
    | with_reducible assumption | with_reducible apply settleAfterrun_keeps (h.mono (by decide))
    | (with_reducible apply handle_keeps (h.mono (by decide)); intro _) | with_reducible apply checked_keeps
    | with_reducible apply gaugeTestEnd_keeps (h.mono (by decide))

theorem execGaugeRehome_keeps {Q : State → Prop} (h : Closed [.signals, .pulse, .repeater, .senders, .switches,
    .supply, .outputs, .distance, .gauges, .warnings, .chime, .doors, .faults, .power, .handed, .enqueue, .serve,
    .parking, .offer, .reply, .request] Q)
    (b : BodyForm) (gauge : Nat) {s : State} (hs : Q s) :
    ∃ t, execGaugeRehome b gauge s = .next t ∧ Q t := by
  refine ⟨_, rfl, ?_⟩
  repeat' first
    | with_reducible assumption | with_reducible apply settleAfterrun_keeps (h.mono (by decide))
    | (with_reducible apply handle_keeps (h.mono (by decide)); intro _) | with_reducible apply checked_keeps
    | with_reducible apply gaugeRehome_keeps (h.mono (by decide))

theorem execTargetUpdateExpiry_keeps {Q : State → Prop} (h : Closed [.gauges, .parking, .offer] Q)
    (gauge : Fin 6) {s : State} (hs : Q s) :
    ∃ t, execTargetUpdateExpiry gauge s = .next t ∧ Q t := by
  refine ⟨_, rfl, ?_⟩
  repeat' first | with_reducible assumption | with_reducible apply targetUpdate_keeps (h.mono (by decide))

theorem execMotionExpiry_keeps {Q : State → Prop} (h : Closed [.signals, .pulse, .repeater, .senders, .switches,
    .supply, .outputs, .distance, .gauges, .warnings, .chime, .doors, .faults, .power, .handed, .enqueue, .serve,
    .parking, .offer, .request] Q)
    (gauge : Fin 6) (coilOpen : Bool) {s : State} (hs : Q s) :
    ∃ t, execMotionExpiry gauge coilOpen s = .next t ∧ Q t := by
  refine ⟨_, rfl, ?_⟩
  repeat' first
    | with_reducible assumption | with_reducible apply settleAfterrun_keeps (h.mono (by decide))
    | with_reducible apply motionEvent_keeps (h.mono (by decide))

theorem execHomingComplete_keeps {Q : State → Prop} (h : Closed [.signals, .pulse, .repeater, .senders, .switches,
    .supply, .outputs, .distance, .gauges, .warnings, .chime, .doors, .faults, .power, .handed, .enqueue, .serve,
    .parking, .offer, .request] Q)
    (gauge : Fin 6) {s : State} (hs : Q s) :
    ∃ t, execHomingComplete gauge s = .next t ∧ Q t := by
  refine ⟨_, rfl, ?_⟩
  repeat' first
    | with_reducible assumption | with_reducible apply settleAfterrun_keeps (h.mono (by decide))
    | with_reducible apply homingComplete_keeps (h.mono (by decide))

theorem execGaugeFreezeExpiry_keeps {Q : State → Prop} (h : Closed [.signals, .pulse, .repeater, .senders,
    .switches, .supply, .outputs, .distance, .gauges, .warnings, .chime, .doors, .faults, .power, .handed, .enqueue,
    .serve, .parking, .offer, .request] Q)
    (gauge : Fin 6) {s : State} (hs : Q s) :
    ∃ t, execGaugeFreezeExpiry gauge s = .next t ∧ Q t := by
  refine ⟨_, rfl, ?_⟩
  repeat' first
    | with_reducible assumption | with_reducible apply settleAfterrun_keeps (h.mono (by decide))
    | with_reducible apply freezeExpiry_keeps (h.mono (by decide))

theorem execGaugeServiceChange_keeps {Q : State → Prop} (h : Closed [.signals, .pulse, .repeater, .senders,
    .switches, .supply, .outputs, .distance, .gauges, .warnings, .chime, .doors, .faults, .power, .handed, .enqueue,
    .serve, .parking, .offer, .request] Q)
    (on : Bool) {s : State} (hs : Q s) :
    ∃ t, execGaugeServiceChange on s = .next t ∧ Q t := by
  refine ⟨_, rfl, ?_⟩
  repeat' first
    | with_reducible assumption | with_reducible apply settleAfterrun_keeps (h.mono (by decide))
    | (with_reducible apply taking_keeps (h.mono (by decide)); intro _ _)
    | with_reducible apply gaugeServiceChange_keeps (h.mono (by decide))

theorem execWarningConfig_keeps {Q : State → Prop} (h : Closed [.warnings, .handed, .offer, .reply, .request] Q)
    (b : BodyForm) (w : Nat) (cfg : WarningCfg) {s : State} (hs : Q s) :
    ∃ t, execWarningConfig b w cfg s = .next t ∧ Q t := by
  refine ⟨_, rfl, ?_⟩
  repeat' first
    | with_reducible assumption | (with_reducible apply handle_keeps (h.mono (by decide)); intro _)
    | with_reducible apply checked_keeps | with_reducible apply warningConfig_keeps (h.mono (by decide))

theorem execWarningRead_keeps {Q : State → Prop} (h : Closed [.reply] Q)
    (b : BodyForm) (w : Nat) {s : State} (hs : Q s) :
    ∃ t, execWarningRead b w s = .next t ∧ Q t := by
  refine ⟨_, rfl, ?_⟩
  repeat' first
    | with_reducible assumption | (with_reducible apply handle_keeps (h.mono (by decide)); intro _)
    | with_reducible apply checked_keeps | with_reducible apply warningRead_keeps

theorem execWarningAckHead_keeps {Q : State → Prop} (h : Closed [.warnings, .handed, .offer, .reply, .request] Q)
    (b : BodyForm) {s : State} (hs : Q s) :
    ∃ t, execWarningAckHead b s = .next t ∧ Q t := by
  refine ⟨_, rfl, ?_⟩
  repeat' first
    | with_reducible assumption | (with_reducible apply handle_keeps (h.mono (by decide)); intro _)
    | with_reducible apply checked_keeps | with_reducible apply warningAckHead_keeps (h.mono (by decide))

theorem execWarningAckIndex_keeps {Q : State → Prop} (h : Closed [.warnings, .handed, .offer, .reply, .request] Q)
    (b : BodyForm) (w : Nat) {s : State} (hs : Q s) :
    ∃ t, execWarningAckIndex b w s = .next t ∧ Q t := by
  refine ⟨_, rfl, ?_⟩
  repeat' first
    | with_reducible assumption | (with_reducible apply handle_keeps (h.mono (by decide)); intro _)
    | with_reducible apply checked_keeps | with_reducible apply warningAckIndex_keeps (h.mono (by decide))

theorem execWarningAckAll_keeps {Q : State → Prop} (h : Closed [.warnings, .handed, .offer, .reply, .request] Q)
    (b : BodyForm) {s : State} (hs : Q s) :
    ∃ t, execWarningAckAll b s = .next t ∧ Q t := by
  refine ⟨_, rfl, ?_⟩
  repeat' first
    | with_reducible assumption | (with_reducible apply handle_keeps (h.mono (by decide)); intro _)
    | with_reducible apply checked_keeps | with_reducible apply warningAckAll_keeps (h.mono (by decide))

theorem execAckEdge_keeps {Q : State → Prop} (h : Closed [.warnings, .handed, .offer, .request] Q)
     {s : State} (hs : Q s) :
    ∃ t, execAckEdge s = .next t ∧ Q t := by
  refine ⟨_, rfl, ?_⟩
  repeat' first
    | with_reducible assumption | (with_reducible apply takingActive_keeps (h.mono (by decide)); intro _ _)
    | with_reducible apply ackHead_keeps (h.mono (by decide))

theorem execTelltaleRead_keeps {Q : State → Prop} (h : Closed [.reply] Q)
     {s : State} (hs : Q s) :
    ∃ t, execTelltaleRead s = .next t ∧ Q t := by
  refine ⟨_, rfl, ?_⟩
  repeat' first
    | with_reducible assumption | (with_reducible apply handle_keeps (h.mono (by decide)); intro _)
    | with_reducible apply bare_keeps | with_reducible apply telltaleRead_keeps

theorem execLampTest_keeps {Q : State → Prop} (h : Closed [.warnings, .offer, .reply, .request] Q)
     {s : State} (hs : Q s) :
    ∃ t, execLampTest s = .next t ∧ Q t := by
  refine ⟨_, rfl, ?_⟩
  repeat' first
    | with_reducible assumption | (with_reducible apply handle_keeps (h.mono (by decide)); intro _)
    | with_reducible apply bare_keeps | with_reducible apply lampTest_keeps (h.mono (by decide))

theorem execAttentionRead_keeps {Q : State → Prop} (h : Closed [.reply] Q)
     {s : State} (hs : Q s) :
    ∃ t, execAttentionRead s = .next t ∧ Q t := by
  refine ⟨_, rfl, ?_⟩
  repeat' first
    | with_reducible assumption | (with_reducible apply handle_keeps (h.mono (by decide)); intro _)
    | with_reducible apply bare_keeps | with_reducible apply attentionRead_keeps

theorem execWarningScan_keeps {Q : State → Prop} (h : Closed [.warnings, .handed, .offer, .request] Q)
     {s : State} (hs : Q s) :
    ∃ t, execWarningScan s = .next t ∧ Q t := by
  refine ⟨_, rfl, ?_⟩
  repeat' first | with_reducible assumption | with_reducible apply scan_keeps (h.mono (by decide))

theorem execOnDelayEnd_keeps {Q : State → Prop} (h : Closed [.warnings, .handed, .offer, .request] Q)
    (w : Fin 32) {s : State} (hs : Q s) :
    ∃ t, execOnDelayEnd w s = .next t ∧ Q t := by
  refine ⟨_, rfl, ?_⟩
  repeat' first | with_reducible assumption | with_reducible apply onDelayEnd_keeps (h.mono (by decide))

theorem execOffDelayEnd_keeps {Q : State → Prop} (h : Closed [.warnings, .handed, .offer, .request] Q)
    (w : Fin 32) {s : State} (hs : Q s) :
    ∃ t, execOffDelayEnd w s = .next t ∧ Q t := by
  refine ⟨_, rfl, ?_⟩
  repeat' first | with_reducible assumption | with_reducible apply offDelayEnd_keeps (h.mono (by decide))

theorem execReminderDue_keeps {Q : State → Prop} (h : Closed [.warnings, .handed, .offer, .request] Q)
    (w : Fin 32) {s : State} (hs : Q s) :
    ∃ t, execReminderDue w s = .next t ∧ Q t := by
  refine ⟨_, rfl, ?_⟩
  repeat' first | with_reducible assumption | with_reducible apply reminderDue_keeps (h.mono (by decide))

theorem execBlinkClockExpiry_keeps {Q : State → Prop} (h : Closed [.warnings, .request] Q)
     {s : State} (hs : Q s) :
    ∃ t, execBlinkClockExpiry s = .next t ∧ Q t := by
  refine ⟨_, rfl, ?_⟩
  repeat' first | with_reducible assumption | with_reducible apply blink_keeps (h.mono (by decide))

theorem execProveOutExpiry_keeps {Q : State → Prop} (h : Closed [.warnings, .offer, .request] Q)
     {s : State} (hs : Q s) :
    ∃ t, execProveOutExpiry s = .next t ∧ Q t := by
  refine ⟨_, rfl, ?_⟩
  repeat' first | with_reducible assumption | with_reducible apply proveOutExpiry_keeps (h.mono (by decide))

theorem execChimePatternSet_keeps {Q : State → Prop} (h : Closed [.chime, .reply] Q)
    (b : BodyForm) (index : Nat) (pattern : ChimePattern) {s : State} (hs : Q s) :
    ∃ t, execChimePatternSet b index pattern s = .next t ∧ Q t := by
  refine ⟨_, rfl, ?_⟩
  repeat' first
    | with_reducible assumption | (with_reducible apply handle_keeps (h.mono (by decide)); intro _)
    | with_reducible apply checked_keeps | with_reducible apply chimePatternSet_keeps (h.mono (by decide))

theorem execChimePlay_keeps {Q : State → Prop} (h : Closed [.chime, .reply] Q)
    (b : BodyForm) (index : Nat) (mode : ChimeMode) {s : State} (hs : Q s) :
    ∃ t, execChimePlay b index mode s = .next t ∧ Q t := by
  refine ⟨_, rfl, ?_⟩
  repeat' first
    | with_reducible assumption | (with_reducible apply handle_keeps (h.mono (by decide)); intro _)
    | with_reducible apply checked_keeps | with_reducible apply chimePlay_keeps (h.mono (by decide))

theorem execChimeStop_keeps {Q : State → Prop} (h : Closed [.chime, .reply] Q)
     {s : State} (hs : Q s) :
    ∃ t, execChimeStop s = .next t ∧ Q t := by
  refine ⟨_, rfl, ?_⟩
  repeat' first
    | with_reducible assumption | (with_reducible apply handle_keeps (h.mono (by decide)); intro _)
    | with_reducible apply bare_keeps | with_reducible apply chimeStop_keeps (h.mono (by decide))

theorem execChimeVolume_keeps {Q : State → Prop} (h : Closed [.chime, .reply] Q)
    (b : BodyForm) (volume : Nat) {s : State} (hs : Q s) :
    ∃ t, execChimeVolume b volume s = .next t ∧ Q t := by
  refine ⟨_, rfl, ?_⟩
  repeat' first
    | with_reducible assumption | (with_reducible apply handle_keeps (h.mono (by decide)); intro _)
    | with_reducible apply checked_keeps | with_reducible apply chimeVolume_keeps (h.mono (by decide))

theorem execChimeRequest_keeps {Q : State → Prop} (h : Closed [.chime, .handed] Q)
    (who : Requester) (pattern : Nat) (mode : ChimeMode) {s : State} (hs : Q s) :
    ∃ t, execChimeRequest who pattern mode s = .next t ∧ Q t := by
  refine ⟨_, rfl, ?_⟩
  repeat' first
    | with_reducible assumption | (with_reducible apply takingActive_keeps (h.mono (by decide)); intro _ _)
    | with_reducible apply withChime_keeps (h.mono (by decide))

theorem execChimeWithdrawal_keeps {Q : State → Prop} (h : Closed [.chime, .handed] Q)
    (who : Requester) {s : State} (hs : Q s) :
    ∃ t, execChimeWithdrawal who s = .next t ∧ Q t := by
  refine ⟨_, rfl, ?_⟩
  repeat' first
    | with_reducible assumption | (with_reducible apply taking_keeps (h.mono (by decide)); intro _ _)
    | with_reducible apply withChime_keeps (h.mono (by decide))

theorem execMarkExpiry_keeps {Q : State → Prop} (h : Closed [.chime] Q)
     {s : State} (hs : Q s) :
    ∃ t, execMarkExpiry s = .next t ∧ Q t := by
  refine ⟨_, rfl, ?_⟩
  repeat' first | with_reducible assumption | with_reducible apply withChime_keeps (h.mono (by decide))

theorem execSpaceExpiry_keeps {Q : State → Prop} (h : Closed [.chime] Q)
     {s : State} (hs : Q s) :
    ∃ t, execSpaceExpiry s = .next t ∧ Q t := by
  refine ⟨_, rfl, ?_⟩
  repeat' first | with_reducible assumption | with_reducible apply withChime_keeps (h.mono (by decide))

theorem execGapExpiry_keeps {Q : State → Prop} (h : Closed [.chime] Q)
     {s : State} (hs : Q s) :
    ∃ t, execGapExpiry s = .next t ∧ Q t := by
  refine ⟨_, rfl, ?_⟩
  repeat' first | with_reducible assumption | with_reducible apply withChime_keeps (h.mono (by decide))

theorem execTailExpiry_keeps {Q : State → Prop} (h : Closed [.chime] Q)
     {s : State} (hs : Q s) :
    ∃ t, execTailExpiry s = .next t ∧ Q t := by
  refine ⟨_, rfl, ?_⟩
  repeat' first | with_reducible assumption | with_reducible apply withChime_keeps (h.mono (by decide))

theorem execToneSenseExpiry_keeps {Q : State → Prop} (h : Closed [.chime, .handed] Q)
    (reading : ToneReading) {s : State} (hs : Q s) :
    ∃ t, execToneSenseExpiry reading s = .next t ∧ Q t := by
  refine ⟨_, rfl, ?_⟩
  repeat' first | with_reducible assumption | with_reducible apply toneSense_keeps (h.mono (by decide))

theorem execToneTick_keeps {Q : State → Prop} (h : Closed [.chime] Q)
     {s : State} (hs : Q s) :
    ∃ t, execToneTick s = .next t ∧ Q t := by
  refine ⟨_, rfl, ?_⟩
  repeat' first | with_reducible assumption | with_reducible apply withChime_keeps (h.mono (by decide))

theorem execDoorConfig_keeps {Q : State → Prop} (h : Closed [.doors, .handed, .enqueue, .serve, .offer, .reply,
    .request, .write] Q)
    (b : BodyForm) (target : Nat) (cfg : DoorCfg) {s : State} (hs : Q s) :
    ∃ t, execDoorConfig b target cfg s = .next t ∧ Q t := by
  refine ⟨_, rfl, ?_⟩
  repeat' first
    | with_reducible assumption | (with_reducible apply handle_keeps (h.mono (by decide)); intro _)
    | with_reducible apply checked_keeps | with_reducible apply doorConfig_keeps (h.mono (by decide))

theorem execDoorConfigStopLatch_keeps {Q : State → Prop} (h : Closed [.doors, .reply] Q)
    (b : BodyForm) (stop : Option Nat) (assist : Option Nat) {s : State} (hs : Q s) :
    ∃ t, execDoorConfigStopLatch b stop assist s = .next t ∧ Q t := by
  refine ⟨_, rfl, ?_⟩
  repeat' first
    | with_reducible assumption | (with_reducible apply handle_keeps (h.mono (by decide)); intro _)
    | with_reducible apply checked_keeps | with_reducible apply doorConfigStopLatch_keeps (h.mono (by decide))

theorem execDoorRead_keeps {Q : State → Prop} (h : Closed [.reply] Q)
     {s : State} (hs : Q s) :
    ∃ t, execDoorRead s = .next t ∧ Q t := by
  refine ⟨_, rfl, ?_⟩
  repeat' first
    | with_reducible assumption | (with_reducible apply handle_keeps (h.mono (by decide)); intro _)
    | with_reducible apply bare_keeps | with_reducible apply doorRead_keeps

theorem execStopRequestClear_keeps {Q : State → Prop} (h : Closed [.doors, .handed, .offer, .reply, .request,
    .write] Q)
     {s : State} (hs : Q s) :
    ∃ t, execStopRequestClear s = .next t ∧ Q t := by
  refine ⟨_, rfl, ?_⟩
  repeat' first
    | with_reducible assumption | (with_reducible apply handle_keeps (h.mono (by decide)); intro _)
    | with_reducible apply bare_keeps | with_reducible apply stopRequestClear_keeps (h.mono (by decide))

theorem execDoorPolicy_keeps {Q : State → Prop} (h : Closed [.doors, .offer, .reply, .request, .write] Q)
    (b : BodyForm) (policy : DoorPolicy) {s : State} (hs : Q s) :
    ∃ t, execDoorPolicy b policy s = .next t ∧ Q t := by
  refine ⟨_, rfl, ?_⟩
  repeat' first
    | with_reducible assumption | (with_reducible apply handle_keeps (h.mono (by decide)); intro _)
    | with_reducible apply checked_keeps | with_reducible apply doorPolicy_keeps (h.mono (by decide))

theorem execDoorInputWrite_keeps {Q : State → Prop} (h : Closed [.doors, .handed, .enqueue, .serve, .offer,
    .request, .write] Q)
    (door : Fin 4) {s : State} (hs : Q s) :
    ∃ t, execDoorInputWrite door s = .next t ∧ Q t := by
  refine ⟨_, rfl, ?_⟩
  repeat' first
    | with_reducible assumption | (with_reducible apply takingActive_keeps (h.mono (by decide)); intro _ _)
    | with_reducible apply derive_keeps (h.mono (by decide))

theorem execDoorImplausibilityExpiry_keeps {Q : State → Prop} (h : Closed [.doors, .handed, .clock, .enqueue,
    .serve, .offer, .request, .write] Q)
    (door : Fin 4) (τ : Nat) {s : State} (hs : Q s) :
    ∃ t, execDoorImplausibilityExpiry door τ s = .next t ∧ Q t := by
  refine ⟨_, rfl, ?_⟩
  repeat' first
    | with_reducible assumption | with_reducible apply implausibilityExpiry_keeps (h.mono (by decide))
    | with_reducible apply advance_keeps (h.mono (by decide))

theorem execDoorTravelExpiry_keeps {Q : State → Prop} (h : Closed [.doors, .handed, .clock, .enqueue, .serve,
    .offer, .request, .write] Q)
    (door : Fin 4) (τ : Nat) {s : State} (hs : Q s) :
    ∃ t, execDoorTravelExpiry door τ s = .next t ∧ Q t := by
  refine ⟨_, rfl, ?_⟩
  repeat' first
    | with_reducible assumption | with_reducible apply travelExpiry_keeps (h.mono (by decide))
    | with_reducible apply advance_keeps (h.mono (by decide))

theorem execDoorWiringFault_keeps {Q : State → Prop} (h : Closed [.handed, .write] Q)
    (door : Fin 4) {s : State} (hs : Q s) :
    ∃ t, execDoorWiringFault door s = .next t ∧ Q t := by
  refine ⟨_, rfl, ?_⟩
  repeat' first
    | with_reducible assumption | (with_reducible apply takingActive_keeps (h.mono (by decide)); intro _ _)
    | with_reducible apply doorWiringFault_keeps (h.mono (by decide))

theorem execDoorRefreshExpiry_keeps {Q : State → Prop} (h : Closed [.write] Q)
     {s : State} (hs : Q s) :
    ∃ t, execDoorRefreshExpiry s = .next t ∧ Q t := by
  refine ⟨_, rfl, ?_⟩
  repeat' first | with_reducible assumption | with_reducible apply doorRefresh_keeps (h.mono (by decide))

theorem execReleaseRedecide_keeps {Q : State → Prop} (h : Closed [.doors, .handed, .offer, .request, .write] Q)
     {s : State} (hs : Q s) :
    ∃ t, execReleaseRedecide s = .next t ∧ Q t := by
  refine ⟨_, rfl, ?_⟩
  repeat' first
    | with_reducible assumption | (with_reducible apply takingActive_keeps (h.mono (by decide)); intro _ _)
    | with_reducible apply decidePermission_keeps (h.mono (by decide))

theorem execSecuredRunComplete_keeps {Q : State → Prop} (h : Closed [.doors, .clock, .offer, .request, .write] Q)
    (τ : Nat) {s : State} (hs : Q s) :
    ∃ t, execSecuredRunComplete τ s = .next t ∧ Q t := by
  refine ⟨_, rfl, ?_⟩
  repeat' first
    | with_reducible assumption | with_reducible apply securedRunComplete_keeps (h.mono (by decide))
    | with_reducible apply advance_keeps (h.mono (by decide))

theorem execOverrideChange_keeps {Q : State → Prop} (h : Closed [.doors, .handed, .offer, .request, .write] Q)
     {s : State} (hs : Q s) :
    ∃ t, execOverrideChange s = .next t ∧ Q t := by
  refine ⟨_, rfl, ?_⟩
  repeat' first
    | with_reducible assumption | (with_reducible apply takingActive_keeps (h.mono (by decide)); intro _ _)
    | with_reducible apply decideInterlock_keeps (h.mono (by decide))

theorem execInterlockOutputChange_keeps {Q : State → Prop} (h : Closed [.doors, .handed, .offer, .write] Q)
     {s : State} (hs : Q s) :
    ∃ t, execInterlockOutputChange s = .next t ∧ Q t := by
  refine ⟨_, rfl, ?_⟩
  repeat' first
    | with_reducible assumption | (with_reducible apply taking_keeps (h.mono (by decide)); intro _ _)
    | with_reducible apply judgeInterlockFault_keeps (h.mono (by decide))

theorem execStopRequestEdge_keeps {Q : State → Prop} (h : Closed [.doors, .handed, .offer, .request, .write] Q)
    (assist : Bool) {s : State} (hs : Q s) :
    ∃ t, execStopRequestEdge assist s = .next t ∧ Q t := by
  refine ⟨_, rfl, ?_⟩
  repeat' first
    | with_reducible assumption | (with_reducible apply takingActive_keeps (h.mono (by decide)); intro _ _)
    | with_reducible apply stopEdge_keeps (h.mono (by decide))

theorem execFaultReportActive_keeps {Q : State → Prop} (h : Closed [.faults, .handed, .enqueue, .serve, .offer] Q)
    (code : Nat) {s : State} (hs : Q s) :
    ∃ t, execFaultReportActive code s = .next t ∧ Q t := by
  refine ⟨_, rfl, ?_⟩
  repeat' first
    | with_reducible assumption | (with_reducible apply whenPowered_keeps; intro _)
    | with_reducible apply serve_keeps (h.mono (by decide))
    | with_reducible apply faultActive_keeps (h.mono (by decide))
    | with_reducible apply take_keeps (h.mono (by decide))

theorem execFaultReportInactive_keeps {Q : State → Prop} (h : Closed [.faults, .handed, .enqueue, .serve, .offer] Q)
    (code : Nat) {s : State} (hs : Q s) :
    ∃ t, execFaultReportInactive code s = .next t ∧ Q t := by
  refine ⟨_, rfl, ?_⟩
  repeat' first
    | with_reducible assumption | (with_reducible apply whenPowered_keeps; intro _)
    | with_reducible apply serve_keeps (h.mono (by decide))
    | with_reducible apply faultInactive_keeps (h.mono (by decide))
    | with_reducible apply take_keeps (h.mono (by decide))

theorem execFaultNext_keeps {Q : State → Prop} (h : Closed [.faults, .reply] Q)
     {s : State} (hs : Q s) :
    ∃ t, execFaultNext s = .next t ∧ Q t := by
  refine ⟨_, rfl, ?_⟩
  repeat' first
    | with_reducible assumption | (with_reducible apply handle_keeps (h.mono (by decide)); intro _)
    | with_reducible apply bare_keeps | with_reducible apply faultNext_keeps (h.mono (by decide))

theorem execFaultRewind_keeps {Q : State → Prop} (h : Closed [.faults, .reply] Q)
     {s : State} (hs : Q s) :
    ∃ t, execFaultRewind s = .next t ∧ Q t := by
  refine ⟨_, rfl, ?_⟩
  repeat' first
    | with_reducible assumption | (with_reducible apply handle_keeps (h.mono (by decide)); intro _)
    | with_reducible apply bare_keeps | with_reducible apply faultRewind_keeps (h.mono (by decide))

theorem execFaultClear_keeps {Q : State → Prop} (h : Closed [.faults, .enqueue, .serve, .offer, .reply] Q)
    (b : BodyForm) (scope : ClearScope) {s : State} (hs : Q s) :
    ∃ t, execFaultClear b scope s = .next t ∧ Q t := by
  refine ⟨_, rfl, ?_⟩
  repeat' first
    | with_reducible assumption | (with_reducible apply handle_keeps (h.mono (by decide)); intro _)
    | with_reducible apply checked_keeps | with_reducible apply faultClear_keeps (h.mono (by decide))

theorem execFreezeListSet_keeps {Q : State → Prop} (h : Closed [.faults, .reply] Q)
    (b : BodyForm) (signals : List Nat) {s : State} (hs : Q s) :
    ∃ t, execFreezeListSet b signals s = .next t ∧ Q t := by
  refine ⟨_, rfl, ?_⟩
  repeat' first
    | with_reducible assumption | (with_reducible apply handle_keeps (h.mono (by decide)); intro _)
    | with_reducible apply checked_keeps | with_reducible apply freezeListSet_keeps (h.mono (by decide))

theorem execFaultConfig_keeps {Q : State → Prop} (h : Closed [.faults, .reply] Q)
    (b : BodyForm) (limit : Nat) {s : State} (hs : Q s) :
    ∃ t, execFaultConfig b limit s = .next t ∧ Q t := by
  refine ⟨_, rfl, ?_⟩
  repeat' first
    | with_reducible assumption | (with_reducible apply handle_keeps (h.mono (by decide)); intro _)
    | with_reducible apply checked_keeps | with_reducible apply faultConfig_keeps (h.mono (by decide))

theorem execServiceEnter_keeps {Q : State → Prop} (h : Closed [.faults, .handed, .offer, .reply, .write] Q)
     {s : State} (hs : Q s) :
    ∃ t, execServiceEnter s = .next t ∧ Q t := by
  refine ⟨_, rfl, ?_⟩
  repeat' first
    | with_reducible assumption | (with_reducible apply handle_keeps (h.mono (by decide)); intro _)
    | with_reducible apply bare_keeps | with_reducible apply serviceEnter_keeps (h.mono (by decide))

theorem execServiceExit_keeps {Q : State → Prop} (h : Closed [.faults, .handed, .offer, .reply, .write] Q)
     {s : State} (hs : Q s) :
    ∃ t, execServiceExit s = .next t ∧ Q t := by
  refine ⟨_, rfl, ?_⟩
  repeat' first
    | with_reducible assumption | (with_reducible apply handle_keeps (h.mono (by decide)); intro _)
    | with_reducible apply bare_keeps | with_reducible apply serviceExit_keeps (h.mono (by decide))

theorem execServiceSpeedCheck_keeps {Q : State → Prop} (h : Closed [.faults, .handed, .offer, .write] Q)
    (value : Int) (quality : Quality) {s : State} (hs : Q s) :
    ∃ t, execServiceSpeedCheck value quality s = .next t ∧ Q t := by
  refine ⟨_, rfl, ?_⟩
  repeat' first
    | with_reducible assumption | (with_reducible apply taking_keeps (h.mono (by decide)); intro _ _)
    | with_reducible apply serviceSpeedCheck_keeps (h.mono (by decide))

theorem execServiceBrakeChange_keeps {Q : State → Prop} (h : Closed [.faults, .handed, .offer, .write] Q)
    (applied : Bool) {s : State} (hs : Q s) :
    ∃ t, execServiceBrakeChange applied s = .next t ∧ Q t := by
  refine ⟨_, rfl, ?_⟩
  repeat' first
    | with_reducible assumption | (with_reducible apply taking_keeps (h.mono (by decide)); intro _ _)
    | with_reducible apply serviceBrakeChange_keeps (h.mono (by decide))

theorem execServiceSignalRefresh_keeps {Q : State → Prop} (h : Closed [.write] Q)
     {s : State} (hs : Q s) :
    ∃ t, execServiceSignalRefresh s = .next t ∧ Q t := by
  refine ⟨_, rfl, ?_⟩
  repeat' first | with_reducible assumption | with_reducible apply serviceRefresh_keeps (h.mono (by decide))

end Sys2Proof.Machine
end

