-- ==== Sys2Proof/Laws/Ops.lean ====
section
/-!
SUPPORT. What the shared operations do, once each: tables of fixed size, hand-offs, the commit list, the report queue,
the taking of requests, and the settling of AFTERRUN.
-/
namespace Sys2Proof.Machine

/-! ### Tables -/

/-- Reading a table after one place was replaced. -/
theorem tget_tset {α : Type} {n : Nat} [Inhabited α] (v : Vector α n) (i j : Nat) (x : α) (hi : i < n) :
    tget (tset v i x) j = if j = i then x else tget v j := by
  unfold tget tset
  by_cases h : j = i
  · subst h; simp [hi]
  · rw [Vector.getElem?_setIfInBounds]; simp [h, Ne.symm h]

/-- The place replaced reads what was put there. -/
theorem tget_tset_self {α : Type} {n : Nat} [Inhabited α] (v : Vector α n) (i : Nat) (x : α) (hi : i < n) :
    tget (tset v i x) i = x := by rw [tget_tset v i i x hi]; simp

/-- Every other place reads as before, wherever the write went. -/
theorem tget_tset_ne {α : Type} {n : Nat} [Inhabited α] (v : Vector α n) {i j : Nat} (x : α) (h : j ≠ i) :
    tget (tset v i x) j = tget v j := by
  unfold tget tset
  rw [Vector.getElem?_setIfInBounds]; simp [Ne.symm h]

/-- Putting back what a place holds changes nothing. -/
theorem tset_same {α : Type} {n : Nat} [Inhabited α] (v : Vector α n) (i : Nat) : tset v i (tget v i) = v := by
  apply Vector.ext; intro j hj
  simp [tset, tget, Vector.getElem_setIfInBounds]; intro h; subst h; simp [hj]

/-- Of two writes to one place the later stands. -/
theorem tset_tset {α : Type} {n : Nat} (v : Vector α n) (i : Nat) (x y : α) : tset (tset v i x) i y = tset v i y := by
  apply Vector.ext; intro j hj
  simp [tset]

/-! ### Hand-offs and the clock -/

/-- A hand-off taken in RUN and AFTERRUN acts on the state without it. -/
theorem taking_active {h : Handoff} {f : State → State} {s : State} (ha : s.active = true) :
    taking h f s = f (take h s) := by simp [taking, State.takes, ha]

/-- A hand-off that waits is taken in every mode with supply. -/
theorem taking_handed {h : Handoff} {f : State → State} {s : State} (hp : s.powered = true) (hm : h ∈ s.handed) :
    taking h f s = f (take h s) := by simp [taking, State.takes, hp, hm]

/-- A hand-off that acts in RUN and AFTERRUN alone. -/
theorem takingActive_active {h : Handoff} {f : State → State} {s : State} (ha : s.active = true) :
    takingActive h f s = f (take h s) := by
  rw [takingActive, taking_active ha]
  have : (take h s).active = true := ha
  simp [whenActive, this]

/-- The clock never runs back. -/
theorem advance_clock (t : Nat) (s : State) : s.clock ≤ (advance t s).clock ∧ t ≤ (advance t s).clock :=
  ⟨Nat.le_max_left .., Nat.le_max_right ..⟩

/-! ### The commit list (R183) -/

/-- Queueing an item: it stands in the list, which is otherwise as it was. -/
theorem enqueue_spec (i : Item) (s : State) :
    (i ∈ s.power.commit ∧ enqueue i s = s) ∨
      (i ∉ s.power.commit ∧ enqueue i s = s.setPower { s.power with commit := s.power.commit ++ [i] }) := by
  by_cases h : i ∈ s.power.commit
  · exact .inl ⟨h, by simp [enqueue, h]⟩
  · exact .inr ⟨h, by simp [enqueue, h]⟩

/-- An item queued is in the list or being written. -/
theorem enqueue_committing (i : Item) (s : State) : (enqueue i s).committing i = true := by
  rcases enqueue_spec i s with ⟨h, e⟩ | ⟨-, e⟩ <;> rw [e] <;> simp_all [State.committing, State.setPower]

/-- Serving the list: with no write in flight the head becomes the write, otherwise nothing changes. -/
theorem serve_spec (s : State) :
    (serve s = s ∧ (s.power.writing.isSome = true ∨ s.power.commit = [])) ∨
      ∃ i rest, s.power.writing = none ∧ s.power.commit = i :: rest ∧
        serve s = s.setPower { s.power with writing := some (s.writeOf i), commit := rest } := by
  unfold serve
  cases hw : s.power.writing with
  | some w => exact .inl ⟨rfl, .inl rfl⟩
  | none =>
    cases hc : s.power.commit with
    | nil => exact .inl ⟨rfl, .inr rfl⟩
    | cons i rest => exact .inr ⟨i, rest, rfl, rfl, rfl⟩

/-- Serving loses no item: each is still waiting or being written. -/
theorem serve_committing {i : Item} {s : State} (h : s.committing i = true) : (serve s).committing i = true := by
  rcases serve_spec s with ⟨e, -⟩ | ⟨j, rest, hw, hc, e⟩
  · rw [e]; exact h
  · rw [e]
    simp only [State.committing, hw, hc, Bool.or_false] at h
    simp only [State.committing, State.setPower]
    rcases List.mem_cons.1 (List.contains_iff_mem.1 h) with rfl | h
    · cases i <;> simp [State.writeOf, WriteData.item]
    · simp [h]

/-- To serve the list that `items` joined is all that queueing them does (R183). -/
theorem serve_queues {s u : State} {items : List Item}
    (h : u.power = { s.power with commit := items.foldl (fun c i => if i ∈ c then c else c ++ [i]) s.power.commit }) :
    s.queues items (serve u) := by
  have hw : u.power.writing = s.power.writing := by rw [h]
  have hc := congrArg Power.commit h
  unfold State.queues serve
  rw [hw, hc]
  rcases hs : s.power.writing with _ | w
  · rcases hl : items.foldl (fun c i => if i ∈ c then c else c ++ [i]) s.power.commit with _ | ⟨i, rest⟩
    · simp [h, hl, hs]
    · cases i <;> simp [h, State.writeOf, State.setPower, State.image]
  · simp [h, hs]

/-- To queue one item and serve the list (R183). -/
theorem serve_enqueue_queues {s u : State} (i : Item) (h : u.power = s.power) : s.queues [i] (serve (enqueue i u)) := by
  refine serve_queues ?_
  by_cases hi : i ∈ s.power.commit <;> simp [enqueue, h, hi]

/-- An item that is queued and then served reaches the store as it stands (R183). -/
theorem stores_serve {u : State} {i : Item} (h : i ∈ u.power.commit) : (serve u).stores i := by
  unfold State.stores serve
  rcases hw : u.power.writing with _ | w <;> rcases hc : u.power.commit with _ | ⟨j, rest⟩ <;> simp_all
  rcases h with rfl | h
  · right; cases i <;> rfl
  · exact .inl h

/-! ### Outputs and coils (R56, R59, 5.3) -/

/-- Following the command: an output stays as it is, or without the cut passes from OFF to ON or from ON to OFF. -/
theorem Output.follow_spec (o : Output) :
    o.follow = o ∨ (o.cut = false ∧ o.state = .off ∧ o.command = true ∧ o.follow = o.enterOn) ∨
      (o.cut = false ∧ o.state = .on ∧ o.command = false ∧ o.follow = o.enterOff) := by
  unfold Output.follow
  split
  · exact .inl rfl
  · rename_i h
    split
    · exact .inr (.inl ⟨by simpa using h, ‹_›, ‹_›, rfl⟩)
    · exact .inr (.inr ⟨by simpa using h, ‹_›, ‹_›, rfl⟩)
    · exact .inl rfl

/-- Outside RUN and AFTERRUN no gauge's coils are powered. -/
theorem State.coils_of_inactive {s : State} (h : s.active = false) (g : Nat) : s.coils g = .unpowered := by
  simp [State.coils, h]

/-! ### The tone tick (R120) -/

/-- A tone tick touches the level, the ticks and the drive of the carrier cycle alone. -/
theorem Chime.toneTick_spec (c : Chime) :
    ∃ level ticks drive, c.toneTick = { c with level := level, ticks := ticks, drive := drive } := by
  unfold Chime.toneTick Chime.beginCycle
  repeat' split
  all_goals exact ⟨_, _, _, rfl⟩

/-! ### Requests (R171) -/

/-- The owner of the request in hand acts on it, and its answer is the reply. -/
theorem handle_asks {s : State} {k : Byte} {x : Slot} (act : List Byte → State → Answer) (h : s.asks k x) :
    handle k act s =
      ((act x.body s).state).replied x (act x.body s).result (act x.body s).body (act x.body s).rate := by
  obtain ⟨h1, h2⟩ := h
  simp [handle, h1, h2, State.replied]

/-- With no request in hand no request acts (log 2). -/
theorem handle_none {s : State} {k : Byte} (act : List Byte → State → Answer) (h : s.link.inHand = none) :
    handle k act s = s := by simp [handle, h]

/-- A body of the wrong length is answered BAD_LENGTH. -/
theorem checked_badLength {b : BodyForm} {act : State → Answer} {body : List Byte} {s : State}
    (h : b.lengthOk = false) : checked b act body s = refuse .badLength s := by simp [checked, h]

/-- An undefined code is answered RANGE. -/
theorem checked_range {b : BodyForm} {act : State → Answer} {body : List Byte} {s : State}
    (h : b.lengthOk = true) (hc : b.codesOk = false) : checked b act body s = refuse .range s := by
  simp [checked, h, hc]

/-- A well-formed body reaches its owner. -/
theorem checked_good {act : State → Answer} {body : List Byte} {s : State} : checked .good act body s = act s := rfl

/-! ### The end of AFTERRUN (R181) -/

/-- Nothing is settled while something holds AFTERRUN up, and in every other mode. -/
theorem settleAfterrun_of_not_done {s : State} (h : s.afterrunDone = false) : settleAfterrun s = s := by
  simp only [State.afterrunDone] at h
  unfold settleAfterrun
  simp [h]

/-- An answer leaves the power and store block alone. -/
theorem afterrunDone_replied (s : State) (x : Slot) (r : Result) (b : ReplyBody) (rate : Option Rate) :
    (s.replied x r b rate).afterrunDone = s.afterrunDone := rfl

/-! ### Offered reports (R173, R174) -/

/-- An offered report of an enabled kind stands in the queue, or the queue was full and it is lost. -/
theorem Link.offer_stands {l : Link} {k : ReportKind} (n : Nat) (b : ReportBody) (h : l.enabled.getLsbD k.place = true) :
    ⟨k, n, b⟩ ∈ (l.offer k n b).reports ∨
      ((l.offer k n b).reportsLost = true ∧ 16 ≤ (l.offer k n b).reports.length) := by
  unfold Link.offer
  simp only [h, Bool.not_true, Bool.false_eq_true, if_false]
  split
  · rename_i hs
    obtain ⟨r, hr, hk⟩ := List.any_eq_true.1 hs
    refine .inl (List.mem_map.2 ⟨r, hr, ?_⟩)
    simp only [hk, if_true]
    simp only [Report.same, Bool.and_eq_true, beq_iff_eq] at hk
    simp [← hk.1, ← hk.2]
  · split
    · simp
    · rename_i hl
      exact .inr ⟨rfl, by simpa [reportQueueSize] using hl⟩

/-- An offer leaves the entries of every other kind and subject where they stand. -/
theorem Link.offer_mem {l : Link} {r : Report} {k : ReportKind} {n : Nat} (b : ReportBody) (h : r.same k n = false)
    (hr : r ∈ l.reports) : r ∈ (l.offer k n b).reports := by
  unfold Link.offer
  split
  · exact hr
  · split
    · exact List.mem_map.2 ⟨r, hr, by simp [h]⟩
    · split <;> simp [hr]

/-- A report lost to a full queue stays lost: an offer takes nothing out. -/
theorem Link.offer_lost {l : Link} (k : ReportKind) (n : Nat) (b : ReportBody) (h : l.reportsLost = true)
    (hl : 16 ≤ l.reports.length) : (l.offer k n b).reportsLost = true ∧ 16 ≤ (l.offer k n b).reports.length := by
  unfold Link.offer
  split
  · exact ⟨h, hl⟩
  · split
    · exact ⟨h, by simpa using hl⟩
    · split
      · exact ⟨h, by simp; omega⟩
      · exact ⟨rfl, hl⟩

/-- An offer changes the report queue alone. -/
theorem offer_keepsLinkButReports (k : ReportKind) (n : Nat) (b : ReportBody) (s : State) :
    s.keepsLinkButReports (offer k n b s) := by
  simp only [State.keepsLinkButReports, offer, State.setLink, Link.offer]
  split
  · rfl
  · split
    · rfl
    · split <;> rfl

end Sys2Proof.Machine
end

