-- ==== Sys2Proof/WellFormed.lean ====
section
/-!
DEFINITION. Which commands are well formed: their operands are ones the wiring and the frames can carry (sample widths,
32-bit signed values, 32-bit counts, byte indices), a body's verdict is consistent, and a hand-off names what its sender
can name. `exec` is total and gives every command a meaning, well formed or not.
-/
namespace Sys2Proof

/-- Fits a byte of a frame. -/
def byteOk (n : Nat) : Bool := decide (n < 256)

/-- Fits a 12-bit raw reading (3.1). -/
def rawOk (n : Nat) : Bool := decide (n ≤ 4095)

/-- Fits a 32-bit count. -/
def countOk (n : Nat) : Bool := decide (n ≤ 4294967295)

/-- Fits a signed 32-bit field (00_scope, "Numbers and units"). -/
def int32Ok (v : Int) : Bool := decide (int32Min ≤ v) && decide (v ≤ int32Max)

/-- An optional index fits a byte. -/
def optByteOk : Option Nat → Bool
  | none => true
  | some n => byteOk n

/-- Codes are looked at only in a body of the right length (R171). -/
def BodyForm.wf (b : BodyForm) : Bool := b.lengthOk || !b.codesOk

/-- Values of a signal record's configuration fit their fields (R7). -/
def SigCfg.wf (c : SigCfg) : Bool :=
  int32Ok c.rangeMin && int32Ok c.rangeMax && countOk c.holdLimit && countOk c.refreshLimit &&
    match c.substitute with
    | none => true
    | some v => int32Ok v

/-- Values of a gauge's curve fit their fields (5.1). -/
def GaugeCfg.wf (c : GaugeCfg) : Bool :=
  c.curve.all (fun p => int32Ok p.1 && countOk p.2) && optByteOk c.source && countOk c.pmax

/-- Constants and hysteresis of a term fit their fields (R99). -/
def Term.wf : Term → Bool
  | .compare n _ c h _ => byteOk n && int32Ok c && int32Ok h
  | .quality n _ => byteOk n
  | .flagged n _ => byteOk n
  | .warning w => byteOk w

/-- A requester exists and asks in a mode it has (7.3). -/
def Requester.asks : Requester → ChimeMode → Bool
  | .warning w, m => decide (w ≤ 31) && m != .endless
  | .stopLatch, m => m == .once
  | .host, m => m == .once || m == .endless

/-- A requester exists (7.3). -/
def Requester.wf : Requester → Bool
  | .warning w => decide (w ≤ 31)
  | _ => true

/-- A command is well formed. -/
def Instr.wellFormed : Instr → Bool
  | .senderSampleExpiry _ raw _ => rawOk raw
  | .switchSampleExpiry _ _ raw _ => rawOk raw
  | .configSave b _ => b.wf
  | .reportSet b _ => b.wf
  | .linkRate b code => b.wf && byteOk code
  | .signalPut b i v _ => b.wf && byteOk i && int32Ok v
  | .signalConfig b i c => b.wf && byteOk i && c.wf
  | .signalClearFlags b i _ => b.wf && optByteOk i
  | .signalForce b i v => b.wf && byteOk i && int32Ok v
  | .signalRelease b i => b.wf && byteOk i
  | .pulseConfig b i c => b.wf && byteOk i && countOk c.scaleM && countOk c.scaleD
  | .pulseLogRead b i => b.wf && byteOk i
  | .repeaterConfig b k => b.wf && countOk k
  | .senderConfig b i c => b.wf && byteOk i && c.curve.all fun p => int32Ok p.2
  | .switchConfig b i _ => b.wf && byteOk i
  | .outputConfig b i _ => b.wf && byteOk i
  | .outputForce b i _ => b.wf && byteOk i
  | .outputForceRelease b i => b.wf && byteOk i
  | .distanceHandoff n => decide (n ≤ 65535)
  | .tripReset b _ => b.wf
  | .odometerSet b v => b.wf && countOk v
  | .serviceIntervalSet b v => b.wf && int32Ok v
  | .gaugeConfig b i c => b.wf && byteOk i && c.wf
  | .gaugeTestSet b i p => b.wf && byteOk i && countOk p
  | .gaugeTestEnd b i => b.wf && byteOk i
  | .gaugeRehome b i => b.wf && byteOk i
  | .warningConfig b i c => b.wf && byteOk i && c.terms.all Term.wf
  | .warningRead b i => b.wf && byteOk i
  | .warningAckHead b => b.wf
  | .warningAckIndex b i => b.wf && byteOk i
  | .warningAckAll b => b.wf
  | .chimePatternSet b i _ => b.wf && byteOk i
  | .chimePlay b i m => b.wf && byteOk i && (m == .once || m == .endless)
  | .chimeVolume b v => b.wf && byteOk v
  | .chimeRequest who p m => decide (p ≤ 7) && who.asks m
  | .chimeWithdrawal who => who.wf
  | .doorConfig b d _ => b.wf && byteOk d && d != 4
  | .doorConfigStopLatch b x y => b.wf && optByteOk x && optByteOk y
  | .doorPolicy b p => b.wf && int32Ok p.speed && int32Ok p.hysteresis && int32Ok p.delay
  | .faultReportActive c => Machine.definedCode c
  | .faultReportInactive c => Machine.definedCode c
  | .faultClear b (.code c) => b.wf && decide (c < 65536)
  | .faultClear b .all => b.wf
  | .freezeListSet b xs => b.wf && xs.all byteOk
  | .faultConfig b n => b.wf && byteOk n
  | .serviceSpeedCheck v _ => int32Ok v
  | .partStart _ _ | .brownOut | .ignitionChange _ _ | .ignitionFilterExpiry _ | .afterrunTimerExpiry
  | .storeWriteComplete | .receivedFrame _ _ | .frameGapTimeout | .transmitStart | .frameSent | .resetRestart
  | .unknownKind | .identify | .status | .reset | .configDefaults | .signalRead | .signalAgeTick
  | .holdExpiry _ | .refreshExpiry _ | .pulseTransition _ _ _ | .qualificationExpiry _ | .windowExpiry _ _
  | .biasCheckExpiry _ _ _ | .repeaterTarget | .repeaterHalfCycleEnd | .switchRefreshExpiry _
  | .supplyMeasure _ _ | .underVoltageReportExpiry | .outputRead | .outputOvercurrent _
  | .outputSenseExpiry _ _ _ | .outputRetryExpiry _ | .outputProvingExpiry _ | .outputServiceChange _
  | .distanceRead | .serviceDistanceRefresh | .hoursTick | .hoursTenth | .gaugeRead | .targetUpdateExpiry _
  | .motionExpiry _ _ | .homingComplete _ | .gaugeFreezeExpiry _ | .gaugeServiceChange _ | .ackEdge
  | .telltaleRead | .lampTest | .attentionRead | .warningScan | .onDelayEnd _ | .offDelayEnd _ | .reminderDue _
  | .blinkClockExpiry | .proveOutExpiry | .chimeStop | .markExpiry | .spaceExpiry | .gapExpiry | .tailExpiry
  | .toneSenseExpiry _ | .doorRead | .stopRequestClear | .doorInputWrite _ | .doorImplausibilityExpiry _ _
  | .doorTravelExpiry _ _ | .doorWiringFault _ | .doorRefreshExpiry | .releaseRedecide | .securedRunComplete _
  | .overrideChange | .interlockOutputChange | .stopRequestEdge _ | .faultNext | .faultRewind | .serviceEnter
  | .serviceExit | .serviceBrakeChange _ | .serviceSignalRefresh | .badStopBit | .toneTick => true

end Sys2Proof
end

