-- ==== Sys2Proof/Tests/Slice0.lean ====
section
/-!
SUPPORT. Small checks of the model: terms that `Instr.wellFormed` refuses, one-step tests with values from the spec's
worked examples, and for each statement of Certificates/Slice0/Obligations.lean a theorem `witness_<Name>` that shows
states and operands that meet the premises of its clauses, at boundary values where a clause has a range.
-/
namespace Sys2Proof.Tests
open Sys2Proof.Machine

-- The kernel evaluates these one after the other, not all at once.
set_option Elab.async false

/-! ### Small states -/

/-- The reset state in another power mode. -/
def inMode (m : Mode) : State := State.reset.setPower { State.reset.power with mode := m }

/-- The reset state in RUN. -/
def run : State := inMode .run

/-- The slot of the one request in hand: kind, tag 7, body. -/
def slotOf (k : Byte) (body : List Byte := []) : Slot := ⟨0, k, 7#8, body, .inHand⟩

/-- The state with one request of kind `k` in hand. -/
def asking (k : Byte) (s : State := run) (body : List Byte := []) : State :=
  s.setLink { s.link with slots := [slotOf k body], serial := 1 }

/-- The state after a command (every command answers a next state). -/
def after (c : Instr) (s : State) : State :=
  match exec c s with
  | .next t => t
  | _ => s

/-- The result code of the last reply. -/
def result (c : Instr) (s : State) : Option Result := (after c s).link.replies.getLast?.map Reply.result

/-- The state with one signal record replaced. -/
def withSig (i : Nat) (r : SigRec) (s : State := run) : State := s.setSignals (tset s.signals i r)

/-- The state with record `i` VALID at `v`, age 0. -/
def valid (i : Nat) (v : Int) (s : State := run) : State := withSig i { s.sig i with value := v, quality := .valid, age := 0 } s

/-- The state with one output replaced. -/
def withOut (o : Nat) (x : Output) (s : State := run) : State :=
  s.setOutputs { s.outputs with outs := tset s.outputs.outs o x }

/-- The state with one gauge replaced. -/
def withGauge (g : Nat) (x : Gauge) (s : State := run) : State :=
  s.setGauges { s.gauges with gauges := tset s.gauges.gauges g x }

/-- The state with one warning replaced. -/
def withWarn (w : Nat) (x : Warning) (s : State := run) : State :=
  s.setWarnings { s.warnings with warnings := tset s.warnings.warnings w x }

/-- The state with one door replaced. -/
def withDoor (d : Nat) (x : Door) (s : State := run) : State :=
  s.setDoors { s.doors with doors := tset s.doors.doors d x }

/-- The state with one switch's configuration replaced. -/
def withSwitch (k : Nat) (c : SwitchCfg) (s : State := run) : State :=
  s.setSwitches (tset s.switches k { s.switch k with cfg := c })

/-- The state with record 51, the outputs and the gauges showing the service mode. -/
def serviced (s : State := run) : State :=
  valid 51 1 (((s.setFaults { s.faults with service := true }).setOutputs { s.outputs with service := true }).setGauges
    { s.gauges with service := true })

/-! ### Ill-formed commands are refused -/

/-- Codes cannot be good in a body of the wrong length (R171). -/
theorem test_illformed_body : Instr.wellFormed (.configSave ⟨false, true⟩ 0#32) = false := by decide

/-- A raw reading has 12 bits (3.1). -/
theorem test_illformed_raw : Instr.wellFormed (.senderSampleExpiry 0 4096 0) = false ∧
    Instr.wellFormed (.switchSampleExpiry 0 true 4096 0) = false := by decide

/-- Indices are bytes. -/
theorem test_illformed_byte : Instr.wellFormed (.linkRate ⟨true, true⟩ 256) = false ∧
    Instr.wellFormed (.signalRelease ⟨true, true⟩ 256) = false ∧
    Instr.wellFormed (.chimeVolume ⟨true, true⟩ 256) = false ∧
    Instr.wellFormed (.freezeListSet ⟨true, true⟩ [12, 256]) = false ∧
    Instr.wellFormed (.doorConfigStopLatch ⟨true, true⟩ (some 256) none) = false ∧
    Instr.wellFormed (.signalClearFlags ⟨true, true⟩ (some 256) ⟨true, false, false, false⟩) = false := by decide

/-- Values are signed 32-bit, counts unsigned 32-bit. -/
theorem test_illformed_value : Instr.wellFormed (.signalPut ⟨true, true⟩ 52 2147483648 .valid) = false ∧
    Instr.wellFormed (.signalForce ⟨true, true⟩ 3 (-2147483649)) = false ∧
    Instr.wellFormed (.odometerSet ⟨true, true⟩ 4294967296) = false ∧
    Instr.wellFormed (.serviceSpeedCheck 2147483648 .valid) = false ∧
    Instr.wellFormed (.doorPolicy ⟨true, true⟩ ⟨300, 200, 2147483648⟩) = false ∧
    Instr.wellFormed (.distanceHandoff 65536) = false := by decide

/-- Configurations carry fields that fit. -/
theorem test_illformed_config : Instr.wellFormed (.signalConfig ⟨true, true⟩ 52 ⟨0, 2147483648, 0, none, 0, false⟩) = false ∧
    Instr.wellFormed (.signalConfig ⟨true, true⟩ 52 ⟨0, 1, 0, some (-2147483649), 0, false⟩) = false ∧
    Instr.wellFormed (.pulseConfig ⟨true, true⟩ 1 ⟨true, .riseToRise, 0, 20, 1000, 1, 4294967296, 0⟩) = false ∧
    Instr.wellFormed (.gaugeConfig ⟨true, true⟩ 0 ⟨some 256, 100, [(0, 0), (1, 1)], 1, 0, 0, true, true⟩) = false ∧
    Instr.wellFormed (.senderConfig ⟨true, true⟩ 0 ⟨true, [(0, 0), (1, 2147483648)], 0, 4000, 60, 1000, 2000⟩) = false ∧
    Term.wf (.compare 256 .lt 0 0 .last) = false ∧ Term.wf (.warning 256) = false := by decide

/-- Hand-offs name what their sender can name. -/
theorem test_illformed_handoff : Instr.wellFormed (.faultReportActive 0x100B) = false ∧
    Instr.wellFormed (.chimeRequest (.warning 32) 0 .once) = false ∧
    Instr.wellFormed (.chimeRequest .stopLatch 0 .endless) = false ∧
    Instr.wellFormed (.chimeRequest .host 8 .once) = false ∧ Instr.wellFormed (.chimeWithdrawal (.warning 32)) = false ∧
    Instr.wellFormed (.chimePlay ⟨true, true⟩ 0 .untilAck) = false ∧
    Instr.wellFormed (.doorConfig ⟨true, true⟩ 4 ⟨false, none, none, none, none, none, 6⟩) = false ∧
    Instr.wellFormed (.faultClear ⟨true, true⟩ (.code 65536)) = false := by decide

/-- The same terms within their bounds are well formed. -/
theorem test_wellformed : Instr.wellFormed (.senderSampleExpiry 0 4095 0) = true ∧
    Instr.wellFormed (.signalPut ⟨true, true⟩ 52 2147483647 .valid) = true ∧
    Instr.wellFormed (.distanceHandoff 65535) = true ∧ Instr.wellFormed (.faultReportActive 4161) = true ∧
    Instr.wellFormed (.chimeRequest (.warning 31) 7 .whileActive) = true := by decide

/-! ### One step of a command, with the spec's numbers -/

/-- The STATUS request of 10.8's layout, tag 1: its frame is whole, its check 0x2F good (R169, R170). -/
theorem test_frame_received : (after (.receivedFrame [0xB7#8, 0x02#8, 0x02#8, 0x01#8, 0x2F#8] 0) (inMode .sleep)).link.slots =
    [⟨0, 0x02#8, 0x01#8, [], .inHand⟩] := by decide +kernel

/-- With one bit of the check wrong it is dropped and BAD_FRAME set (R169). -/
theorem test_frame_dropped : (after (.receivedFrame [0xB7#8, 0x02#8, 0x02#8, 0x01#8, 0x2E#8] 0) (inMode .sleep)).link =
    { (inMode .sleep).link with badFrame := true } := by decide +kernel

/-- A fifth request finds the four slots taken and is answered BUSY (R170, 10.9). -/
theorem test_fifth_request_busy :
    ((Link.powerOn .r115200 .r115200).newSlot 1 11 [] |>.newSlot 5 12 [] |>.newSlot 65 13 [] |>.newSlot 48 14 []
      |>.received 16 15 []).replies = [⟨16, 15, .busy, .none, .busy, none⟩] := by decide

/-- The STATUS request's bytes as 10.2 writes them, and a BUSY reply being sent (10.3: BUSY is 7). -/
theorem test_frame_bytes : frameOf 0x02#8 0x01#8 [] = [0xB7#8, 0x02#8, 0x02#8, 0x01#8, 0x2F#8] ∧
    ((run).setLink { (run).link with replies := [⟨0x02#8, 0x01#8, .busy, .none, .busy, none⟩], tx := some .reply }).lineFrame =
      some (0xB7#8 :: [0x03#8, 0x02#8, 0x01#8, 0x07#8] ++ [crc8 [0x03#8, 0x02#8, 0x01#8, 0x07#8]]) ∧
    ReportKind.reportsLost.code = 0x9B#8 := by decide +kernel

/-- Host slot H3, range 0 to 100: 140 is clamped with OVER and ADJUSTED (1.10, t = 900 ms). -/
def slotH3 : State :=
  withSig 55 { (run).sig 55 with cfg := ⟨0, 100, 2000, some 50, 500, true⟩, value := 71, quality := .valid, age := 380 }

theorem test_put_adjusted : (after (.signalPut .good 55 140 .valid) (asking 0x11#8 slotH3)).sig 55 =
    ⟨⟨0, 100, 2000, some 50, 500, true⟩, 100, .valid, 0, ⟨true, false, false, false⟩, false, ⟨false, 0⟩, ⟨true, 0⟩⟩ ∧
    result (.signalPut .good 55 140 .valid) (asking 0x11#8 slotH3) = some .adjusted := by decide +kernel

/-- Refresh expiry: HELD with LOST, the hold timer running from 0 (1.10, t = 1800 ms). -/
theorem test_refresh_expires :
    let t := after (.refreshExpiry 3) (withSig 55 { slotH3.sig 55 with value := 70, refresh := ⟨true, 499⟩ })
    (t.sig 55).quality = .held ∧ (t.sig 55).value = 70 ∧ (t.sig 55).flags.lost = true ∧
      (t.sig 55).hold = ⟨true, 0⟩ ∧ (t.sig 55).refresh = ⟨false, 0⟩ := by decide +kernel

/-- Hold expiry: SUBSTITUTE at 50 (1.10, t = 3800 ms). -/
theorem test_hold_expires :
    let t := after (.holdExpiry 55) (withSig 55 { slotH3.sig 55 with value := 70, quality := .held, hold := ⟨true, 1999⟩ })
    (t.sig 55).quality = .substitute ∧ (t.sig 55).value = 50 := by decide +kernel

/-- The rows of 1.11: CONDITIONS outside the service mode; within it RANGE for 1200, PROTECTED for record 12, 50 taken. -/
theorem test_force_in_order :
    let s := withSig 3 { (run).sig 3 with cfg := ⟨0, 1000, 1000, none, 0, false⟩, value := 612, quality := .valid }
    let v := serviced s
    result (.signalForce .good 3 50) (asking 0x14#8 s) = some .conditions ∧
      result (.signalForce .good 3 1200) (asking 0x14#8 v) = some .range ∧
      result (.signalForce .good 12 0) (asking 0x14#8 v) = some .refusedProtected ∧
      ((after (.signalForce .good 3 50) (asking 0x14#8 v)).sig 3).value = 50 ∧
      ((after (.signalForce .good 3 50) (asking 0x14#8 v)).sig 3).forced = true := by decide +kernel

/-- SIGNAL_RELEASE leaves 50, FAILED (1.11). -/
theorem test_release_fails_the_record :
    let s := withSig 3 { (run).sig 3 with value := 50, quality := .valid, forced := true }
    ((after (.signalRelease .good 3) (asking 0x15#8 s)).sig 3).quality = .failed ∧
      ((after (.signalRelease .good 3) (asking 0x15#8 s)).sig 3).value = 50 := by decide +kernel

/-- A SIGNAL_READ entry is number, quality, flags, value and age, least significant byte first (10.8). -/
theorem test_signal_read_bytes :
    let s := asking 0x10#8 (withSig 49 { (run).sig 49 with value := -2, quality := .held, age := 258 }) [49#8]
    ((after .signalRead s).link.replies.map Reply.body) =
      [.bytes [49#8, 1#8, 0#8, 0xFE#8, 0xFF#8, 0xFF#8, 0xFF#8, 2#8, 1#8]] := by decide +kernel

/-- P0 with three periods of 21094 µs (2.4, evaluation at 80 km/h). -/
def evaluating (n t : Nat) (fPrev : Nat) (ref now : Nat) : State :=
  ((run).setClock now).setPulse (tset (run).pulse 0
    { (run).chan 0 with windowTimer := some 20, n := n, t := t, fPrev := fPrev, reference := some ref })

theorem test_evaluation_80kmh :
    let t := after (.windowExpiry 0 20000) (evaluating 3 21094 0 19994 20000)
    (t.chan 0).fPrev = 142221 ∧ (t.sig 12).value = 8000 ∧ (t.sig 12).quality = .valid ∧
      .distance 3 ∈ t.handed := by decide +kernel

/-- Two rows of braking to a stop: 70 ms and 150 ms after the last edge (2.4). -/
theorem test_evaluation_braking :
    ((after (.windowExpiry 0 70000) (evaluating 0 0 20000 0 70000)).sig 12).value = 804 ∧
      ((after (.windowExpiry 0 150000) (evaluating 0 0 7692 0 150000)).sig 12).value = 375 ∧
      ((after (.windowExpiry 0 1010000) (evaluating 0 0 1010 0 1010000)).sig 12).value = 0 := by decide +kernel

/-- The edge at 12962 after one at 5931 makes a period of 7031 µs (2.4). -/
theorem test_edge_makes_period :
    let t := after (.pulseTransition 0 true 12962) (evaluating 1 7031 0 5931 5931)
    (t.chan 0).n = 2 ∧ (t.chan 0).t = 14062 ∧ (t.chan 0).log = [7031] := by decide +kernel

/-- The repeater at 80.00 km/h: 88,889 mHz, half-cycles of 5625 µs; at 1.00 km/h 1111 mHz (R35, R36). -/
theorem test_repeater :
    (after .repeaterTarget (valid 12 8000)).repeater = ⟨4000, some 88889, true, some 5625⟩ ∧
      (after .repeaterTarget (valid 12 100)).repeater.target = some 1111 := by decide +kernel

/-- The filter of 3.1: F 128,000 and x = 600 give 134,400 and 525, then 139,200 and 544. -/
theorem test_filter :
    let s (f : Int) : State := (withSig 3 { (run).sig 3 with cfg := ⟨0, 1000, 1000, none, 0, false⟩ }).setSenders
      (tset (run).senders 3 ⟨⟨true, [(0, 0), (4000, 1000)], 2, 4001, 60, 1000, 2000⟩, some f, Wiring.clean, true⟩)
    let t := after (.senderSampleExpiry 3 2400 0) (s 128000)
    let u := after (.senderSampleExpiry 3 2400 0) (s 134400)
    (t.sender 3).filter = some 134400 ∧ (t.sig 3).value = 525 ∧ (u.sender 3).filter = some 139200 ∧
      (u.sig 3).value = 544 := by decide +kernel

/-- The shorted lamp of 3.5: first and third overcurrent. -/
theorem test_shorted_lamp :
    let o := { (run).out 6 with owner := .telltale 4, request := true, state := .on }
    let t := after (.outputOvercurrent 6) (withOut 6 o)
    let u := after (.outputOvercurrent 6) (withOut 6 { o with shortCount := 2, shortProven := true })
    (t.out 6).state = .shortWait ∧ (t.out 6).shortCount = 1 ∧ t.handed = [.faultActive (4096 * 4 + 16 * 6 + 2)] ∧
      (u.out 6).state = .lockedOut ∧ (u.out 6).shortCount = 3 ∧
      .faultActive (4096 * 4 + 16 * 6 + 4) ∈ u.handed := by decide +kernel

/-- A debounced level is written: 20 ms of a high level read as active (R48, factory debounce). -/
theorem test_switch_debounced :
    let s := (((run).setClock 20000).setSwitches (tset (run).switches 5
      { (run).switch 5 with sampleOn := true, candidate := some (true, 0) }))
    let t := after (.switchSampleExpiry 5 true 0 20000) s
    (t.switch 5).debounced = some true ∧ (t.sig 21).value = 1 ∧ (t.sig 21).quality = .valid := by decide +kernel

/-- Under-voltage: 100 ms below 16,000 mV (R53). -/
theorem test_under_voltage :
    let s := ((run).setClock 99999).setSupply { (run).supply with measureOn := true, lowRun := some 0 }
    (after (.supplyMeasure 15999 99999) s).supply.underLimit = false ∧
      (after (.supplyMeasure 15999 100000) s).supply.underLimit = true ∧
      (after (.supplyMeasure 16000 100000) s).supply.lowRun = none := by decide +kernel

/-- A carry through two digits: r 6390 and n = 3 with k = 6400 (4.2). -/
def carrying : State :=
  (run).setDistance { (run).distance with
    r := 6390, record := ⟨[9, 6, 5, 4, 3, 2, 1, 0], true, false, [4, 7, 8, 9, 0], [9, 9, 9, 9, 9], [0, 0, 0, 0, 0, 0], 1, true⟩ }

theorem test_carry :
    let t := after (.distanceHandoff 3) carrying
    t.distance.r = 20 ∧ digitsVal t.distance.record.total = 1234570 ∧ digitsVal t.distance.record.tripA = 9875 ∧
      digitsVal t.distance.record.tripB = 0 ∧ t.distance.record.service = 0 ∧ (t.sig 49).value = 0 ∧
      t.committing .counters = true := by decide +kernel

/-- The total at all nines: n = 80 from 9 999 999.8, then a tenth more sets ODO_FULL (4.2). -/
theorem test_all_nines :
    let s (r : Nat) (ds : List Nat) : State := carrying.setDistance { carrying.distance with
      r := r, record := { carrying.distance.record with total := ds, tripA := [6, 2, 1, 4, 0] } }
    let t := after (.distanceHandoff 80) (s 6000 [8, 9, 9, 9, 9, 9, 9, 9])
    let u := after (.distanceHandoff 600) (s 1100 [9, 9, 9, 9, 9, 9, 9, 9])
    t.distance.r = 400 ∧ digitsVal t.distance.record.total = 99999999 ∧ t.distance.record.odoFull = false ∧
      u.distance.r = 700 ∧ digitsVal u.distance.record.total = 99999999 ∧ u.distance.record.odoFull = true ∧
      digitsVal u.distance.record.tripA = 4127 := by decide +kernel

/-- ODOMETER_SET below a VALID total is refused CONDITIONS, above 99,999,999 RANGE (R68). -/
theorem test_odometer_set : result (.odometerSet .good 1234568) (asking 0x32#8 carrying) = some .conditions ∧
    result (.odometerSet .good 100000000) (asking 0x32#8 carrying) = some .range ∧
    result (.odometerSet .good 1234569) (asking 0x32#8 carrying) = some .ok := by decide +kernel

/-- A gauge tracking at `p` with speed `s` toward `τ`, vmax 6. -/
def tracking (p s τ : Nat) : State :=
  withGauge 0 { (run).gauge 0 with
    state := .tracking, p := p, s := s, up := true, tracked := some ⟨τ, false⟩, motionOn := true,
    cfg := { factoryGauge with vmax := 6, source := some 0 } }

/-- Rows 1 and 11 of the ramp of 60 microsteps, and row 1 of the target that falls short (5.4). -/
theorem test_motion_ramp :
    let at_ (p s τ : Nat) := let x := (after (.motionExpiry 0 false) (tracking p s τ)).gauge 0; (x.s, x.p)
    at_ 2100 0 2160 = (1, 2101) ∧ at_ 2145 6 2160 = (5, 2150) ∧ at_ 2160 1 2160 = (0, 2160) ∧
      at_ 2121 6 2125 = (4, 2125) ∧ at_ 2125 4 2125 = (3, 2128) := by decide +kernel

/-- Homing ends with the 48th motion event at the stop (R82). -/
theorem test_homing_completes :
    let s (n : Nat) : State := withGauge 0 { (run).gauge 0 with state := .homing, motionOn := true, overrun := n }
    ((after (.motionExpiry 0 false) (s 92)).gauge 0).state = .homing ∧
      ((after (.motionExpiry 0 false) (s 94)).gauge 0).state = .parked := by decide +kernel

/-- W5 of 6.9's worked example. -/
def w5 : WarningCfg :=
  { enable := true, severity := .stop, combine := .any, terms := [.compare 4 .lt 550 30 .beTrue], onDelay := 1000,
    offDelay := 2000, latching := true, reminder := 60, telltale := some 4, unackPattern := .fast, ackPattern := .steady,
    chime := some (2, .untilAck), suppressor := none, log := true }

/-- RUN with the scan timer running, W5 as given, and record 4 at `v`. -/
def scanning (w : Warning) (v : Int) : State :=
  let s := withWarn 5 w (valid 4 v)
  s.setWarnings { s.warnings with scanOn := true }

/-- 540 starts the on-delay of 50 scans; 572 keeps it, by the hysteresis (6.9). -/
theorem test_scan_on_delay :
    let t := after .warningScan (scanning (Warning.powerOn w5) 540)
    let u := after .warningScan (scanning
      { Warning.powerOn w5 with state := .onDelay, delay := some 31, results := [true, false, false, false] } 572)
    (t.warn 5).state = .onDelay ∧ (t.warn 5).delay = some 50 ∧ (u.warn 5).state = .onDelay ∧
      (u.warn 5).delay = some 30 := by decide +kernel

/-- The 50th scan activates: attention W5, telltale FAST, chime asked, EVENT reported (6.9). -/
theorem test_scan_activates :
    let t := after .warningScan (scanning
      { Warning.powerOn w5 with state := .onDelay, delay := some 1, results := [true, false, false, false] } 535)
    (t.warn 5).state = .active ∧ t.warnings.attention = [5] ∧ (tget t.warnings.telltales 4).merged = .fast ∧
      t.handed = [.chimeRequest (.warning 5) 2 .untilAck, .faultActive (4096 * 10 + 16 * 5 + 11)] := by decide +kernel

/-- The acknowledgement: reminder count 3000, telltale STEADY, chime withdrawn (6.9). -/
theorem test_acknowledged :
    let s0 := scanning { Warning.powerOn w5 with state := .active, results := [true, false, false, false] } 535
    let s := s0.setWarnings { s0.warnings with activation := [5], attention := [5] }
    let t := after .ackEdge s
    (t.warn 5).acked = true ∧ (t.warn 5).reminder = some 3000 ∧ t.warnings.attention = [] ∧
      (tget t.warnings.telltales 4).merged = .steady ∧ .chimeWithdraw (.warning 5) ∈ t.handed := by decide +kernel

/-- C5 and C2 of 7.8. -/
def c5 : ChimePattern := ⟨⟨160, 160⟩, none, .single, 15, 5, 2, 0, 1, 3⟩
def c2 : ChimePattern := ⟨⟨125, 125⟩, some ⟨100, 100⟩, .alternate, 20, 10, 3, 70, 0, 6⟩

/-- The stop latch sounds C5, W5's C2 ahead of it in the list or not there (7.8). -/
def sounding (state : PlayState) (mark : Nat) (rest : List ChimeReq) : State :=
  let p := tset (tset (Vector.replicate 8 factoryPattern) 5 c5) 2 c2
  (run).setChime { (run).chime with
    patterns := p, requests := rest ++ [⟨.stopLatch, 5, .once, 0⟩], nextArrival := 2, state := state,
    sounding := some ⟨.stopLatch, 5, .once, false, false⟩, group := 1, markCount := mark, carrier := ⟨160, 160⟩,
    phase := some 15, level := true, drive := 2 }

/-- At 150 ms W5 takes over from its first mark; at 2450 ms the stop chime ends in a tail of 50 ms (7.8). -/
theorem test_mark_expiry :
    let t := after .markExpiry (sounding .mark 1 [⟨.warning 5, 2, .untilAck, 1⟩])
    let u := after .markExpiry (sounding .mark 2 [])
    t.chime.sounding = some ⟨.warning 5, 2, .untilAck, false, false⟩ ∧ t.chime.markCount = 1 ∧
      t.chime.carrier = ⟨125, 125⟩ ∧ t.chime.requests.length = 2 ∧ u.chime.state = .tail ∧ u.chime.phase = some 5 ∧
      u.chime.requests = [] := by decide +kernel

/-- A request of higher priority in a mark cuts nothing, in a space it starts at once (7.8). -/
theorem test_chime_request :
    let t := after (.chimeRequest (.warning 5) 2 .untilAck) (sounding .mark 1 [])
    let u := after (.chimeRequest (.warning 5) 2 .untilAck) (sounding .space 1 [])
    t.chime.carrier = ⟨160, 160⟩ ∧ (t.chime.requests.map ChimeReq.who) = [.warning 5, .stopLatch] ∧
      u.chime.state = .mark ∧ u.chime.carrier = ⟨125, 125⟩ := by decide +kernel

/-- A carrier of 2 and 3 ticks is high for two ticks and low for three; the mark begins high (R120). -/
theorem test_tone_ticks :
    let s := sounding .mark 1 []
    let s0 := s.setChime (Chime.beginCycle { s.chime with carrier := ⟨2, 3⟩ })
    let tick (s : State) := after .toneTick s
    (s0.chime.output, (tick s0).chime.output, (tick (tick s0)).chime.output, (tick (tick (tick s0))).chime.output,
      (tick (tick (tick (tick s0)))).chime.output, (tick (tick (tick (tick (tick s0))))).chime.output) =
        (2, 2, 0, 0, 0, 2) := by decide +kernel

/-- The rear door of 8.10: CLOSED on K8, OPEN on K9, EDGE on K10; 48,211 cycles, 3 since the commit. -/
def rearDoor (code : Nat) (opened : Bool) (k8 k9 : Int) : State :=
  let c : DoorCfg := ⟨true, some 8, none, some 9, some 10, none, 6⟩
  withDoor 1 { (run).door 1 with cfg := c, code := code, opened := opened, cycles := 48211, sinceCommit := 3 }
    (valid 24 k8 (valid 25 k9 (valid 26 0)))

/-- It leaves CLOSED: MOVING, the interlock applied (8.10, 14.00 s). -/
theorem test_door_leaves_closed :
    let s := rearDoor 0 false 0 0
    let t := after (.doorInputWrite 1) (s.setDoors { s.doors with run := .complete })
    (t.door 1).code = 2 ∧ (t.sig 44).value = 1 ∧ t.doors.interlock = true ∧ (t.sig 46).value = 1 ∧
      (t.door 1).travel = some 0 := by decide +kernel

/-- It closes after standing open: SECURED, cycle 48,212, 4 since the commit, secured run started (8.10, 30.20 s). -/
theorem test_door_secures :
    let t := after (.doorInputWrite 1) (rearDoor 2 true 1 0)
    (t.door 1).code = 0 ∧ (t.door 1).cycles = 48212 ∧ (t.door 1).sinceCommit = 4 ∧ t.doors.run = .running 0 := by
  decide +kernel

/-- EDGE reading VALID with 2 is not VALID (8.1): a closed door is UNKNOWN, and its travel timer is stopped (R135, R138). -/
theorem test_door_input_two :
    let t := after (.doorInputWrite 1) (valid 26 2 (rearDoor 2 false 1 0))
    let u := after (.doorInputWrite 1) (valid 26 2 (rearDoor 2 false 0 0))
    (t.door 1).code = 7 ∧ (u.door 1).code = 7 ∧ (u.door 1).travel = none := by decide +kernel

/-- A press while the door moves is ignored; one while it is SECURED is taken (8.10, 14.30 s and 0 s). -/
theorem test_stop_edge :
    (after (.stopRequestEdge false) (rearDoor 2 false 0 0)).doors.stop = .none ∧
      (after (.stopRequestEdge false) (rearDoor 0 false 1 0)).doors.stop = .stop := by decide +kernel

/-- Permission over the band 300 … 500: 340 keeps it withdrawn, 295 grants, 480 keeps, 520 withdraws (8.10). -/
theorem test_release_band :
    let at_ (v : Int) (on : Bool) : Bool :=
      (after .releaseRedecide (let s := valid 12 v; s.setDoors { s.doors with permission := on })).doors.permission
    at_ 340 false = false ∧ at_ 295 false = true ∧ at_ 480 true = true ∧ at_ 520 true = false := by decide +kernel

/-- Code 4161 is SENDER/4/OPEN (9.10). -/
theorem test_fault_code : faultCode .sender 4 .opened = 4161 ∧ definedCode 4161 = true := by decide

/-- The memory of 9.10 in cycle 812, with the record of code 4161 or not. -/
def cycle812 (xs : List FaultRec) : State :=
  let s := (run).setPower { (run).power with cycles := 812 }
  (s.setDistance { s.distance with record := { s.distance.record with
      total := [6, 0, 4, 3, 2, 5, 1, 0], hours := [3, 7, 1, 2, 4, 0] } }).setFaults
    { s.faults with records := xs, counter := 57, healLimit := 3 }

/-- The fault is confirmed: one occurrence, number 57, counter 58 (9.10). -/
theorem test_fault_created :
    (after (.faultReportActive 4161) (cycle812 [])).faults.records =
        [⟨4161, true, 1, 57, 1523406, 42173, 1523406, 42173, 812, 0, none⟩] ∧
      (after (.faultReportActive 4161) (cycle812 [])).faults.counter = 58 := by decide +kernel

/-- The cycle end heals the passive record to 2 of 3, erases one that reaches 3, and leaves an ACTIVE one (9.10). -/
theorem test_cycle_end_heals :
    let r : FaultRec := ⟨4161, false, 1, 57, 0, 0, 0, 0, 812, 1, none⟩
    (cycleEnd (cycle812 [{ r with code := 0x4062, seq := 41, healing := 2 }, r])).faults.records =
        [{ r with healing := 2 }] ∧
      (cycleEnd (cycle812 [{ r with active := true }])).faults.records = [{ r with active := true }] := by decide +kernel

/-- FAULT_CLEAR outside the service mode is refused CONDITIONS (9.12). -/
theorem test_fault_clear_needs_service : result (.faultClear .good .all) (asking 0x72#8) = some .conditions := by
  decide +kernel

/-- The brake released ends the service mode: record 51 at 0, a forced record FAILED, outputs and gauges told (9.12). -/
theorem test_brake_ends_service :
    let s := serviced
    let t := after (.serviceBrakeChange false) (withSig 4 { s.sig 4 with value := 500, quality := .valid, forced := true } s)
    t.faults.service = false ∧ (t.sig 51).value = 0 ∧ (t.sig 4).forced = false ∧ (t.sig 4).quality = .failed ∧
      t.handed = [.outputService false, .gaugeService false] := by decide +kernel

/-- AFTERRUN entry: counter record, door counts, fault memory, the first under way (11.5). -/
theorem test_afterrun_entry :
    let t := after (.ignitionFilterExpiry 50000)
      ((run).setPower { (run).power with ignitionTaken := true, filterOn := true, cycles := 4310 })
    t.power.mode = .afterrun ∧ t.power.commit = [.doorCounts, .faults] ∧ (t.power.writing.map Write.ms) = some 8 ∧
      t.power.cycles = 4310 := by decide +kernel

/-- RUN entry raises the cycle count and homes every gauge from Pmax (11.5, R82). -/
theorem test_run_entry :
    let s := inMode .sleep
    let t := after (.ignitionFilterExpiry 50000)
      (s.setPower { s.power with ignitionPin := true, filterOn := true, cycles := 4310 })
    t.power.mode = .run ∧ t.power.cycles = 4311 ∧ (t.gauge 0).state = .homing ∧ (t.gauge 0).p = 3240 := by decide +kernel

/-- The first start of a part whose store was never written: SLEEP, the two losses reported (R184). -/
theorem test_first_start :
    let t := after (.partStart true 0) State.reset
    t.power.mode = .sleep ∧ t.power.configGood = false ∧
      t.handed.take 2 = [.faultActive (4096 * 9 + 9), .faultActive (4096 * 9 + 16 + 10)] := by decide +kernel

/-- CONFIG_SAVE is deferred, and its write takes 60 ms (R183, R185). -/
theorem test_config_save_deferred :
    let t := after (.configSave .good 9#32) (asking 0x05#8)
    t.link.replies = [] ∧ (t.link.slots.map Slot.stage) = [.deferred] ∧ (t.power.writing.map Write.ms) = some 60 ∧
      t.power.tag = 9#32 := by decide +kernel

/-- A step takes the front command; with the queue and the outbox empty it idles. -/
theorem test_step : step State.reset = .next State.reset ∧
    step (State.reset.setPending [.ignitionChange true 5]) = exec (.ignitionChange true 5) State.reset := ⟨rfl, rfl⟩

/-- No row of the table has bits, so no word spells a command. -/
theorem test_no_word_decodes : decodeTableWord 8 255 = none ∧ State.reset.withFetchWord 8 255 = State.reset := ⟨rfl, rfl⟩

/-! ### Witnesses: premises of the statements, met -/

/-- A request in hand beside an empty reply path keeps `RequestBufferLaw`. -/
theorem asking_law (k : Byte) (s : State) (body : List Byte) (hr : s.link.replies = []) (hb : s.link.busy = [])
    (hs : s.power.saving = none) : RequestBufferLaw (asking k s body) := by
  simp [RequestBufferLaw, asking, slotOf, State.setLink, hr, hb, hs]

theorem witness_StepRunsFrontCommand : State.reset.handed = [] ∧ (hand .release State.reset).handed = [.release] := by
  decide +kernel

theorem witness_RequestsAreAnsweredOnce :
    (RequestBufferLaw (asking 0x31#8) ∧ (asking 0x31#8).link.inHand = some (slotOf 0x31#8)) ∧
    (asking 0x31#8).asks 0x31#8 (slotOf 0x31#8) ∧ (asking 0x31#8).afterrunDone = false ∧
    requestForm (.tripReset ⟨false, false⟩ .a) = some (0x31#8, ⟨false, false⟩) ∧
    requestForm (.tripReset ⟨true, false⟩ .a) = some (0x31#8, ⟨true, false⟩) ∧
    bareKind .doorRead = some 0x61#8 ∧ (asking 0x61#8 run [0#8]).asks 0x61#8 (slotOf 0x61#8 [0#8]) ∧
    (asking 0x61#8 run [0#8]).afterrunDone = false := by
  refine ⟨⟨asking_law _ _ _ rfl rfl rfl, rfl⟩, ?_⟩; decide +kernel

theorem witness_LinkRequestsAct :
    (asking 0x01#8).asks 0x01#8 (slotOf 0x01#8) ∧ (asking 0x02#8).asks 0x02#8 (slotOf 0x02#8) ∧
    (asking 0x07#8).asks 0x07#8 (slotOf 0x07#8) ∧
    (asking 0x7A#8).link.inHand = some (slotOf 0x7A#8) ∧ (asking 0x00#8).link.inHand = some (slotOf 0x00#8) ∧
    (RequestBufferLaw (asking 0x04#8) ∧ (asking 0x04#8).asks 0x04#8 (slotOf 0x04#8)) ∧
    (after .reset (asking 0x04#8)).link.slots.length < 4 := by
  refine ⟨by decide +kernel, by decide +kernel, by decide +kernel, rfl, rfl, ⟨asking_law _ _ _ rfl rfl rfl, by decide +kernel⟩, ?_⟩
  decide +kernel

/-- The link with reports enabled and `n` of them queued, one for each signal from 0 on. -/
def reporting (n : Nat) (lost : Bool := false) : State :=
  (run).setLink { (run).link with
    enabled := 0x07FF#16, reports := (List.range n).map fun i => ⟨.signalFlags, i, .signalFlags i {}⟩,
    reportsLost := lost, lostCount := if lost then 3 else 0 }

theorem witness_ReportQueueTakesAndPrunes :
    (run).link.enabled.getLsbD (ReportKind.signalFlags).place = false ∧
    (reporting 2).link.enabled.getLsbD (ReportKind.signalFlags).place = true ∧
    (reporting 2).link.reports = [⟨.signalFlags, 0, .signalFlags 0 {}⟩] ++ ⟨.signalFlags, 1, .signalFlags 1 {}⟩ :: [] ∧
    (∀ r ∈ (reporting 15).link.reports, ¬(r.kind = .signalFlags ∧ r.subject = 15)) ∧ (reporting 15).link.reports.length < 16 ∧
    (∀ r ∈ (reporting 16).link.reports, ¬(r.kind = .signalFlags ∧ r.subject = 16)) ∧ 16 ≤ (reporting 16).link.reports.length ∧
    (asking 0x03#8 (reporting 2)).asks 0x03#8 (slotOf 0x03#8) ∧
    (let kept (s : State) := s.link.reports.filter fun r => r.kind == .reportsLost || (0#16).getLsbD r.kind.place
     let frees (s : State) := decide ((kept s).length < s.link.reports.length) && s.link.reportsLost
     frees (asking 0x03#8 (reporting 2)) = false ∧ frees (asking 0x03#8 (reporting 2 true)) = true ∧
       (∀ r ∈ kept (asking 0x03#8 (reporting 2 true)), r.kind ≠ .reportsLost)) := by decide +kernel

theorem witness_ReportQueueTakesAndPrunes_merges :
    let s := (reporting 1 true).setLink { (reporting 1 true).link with
      reports := [⟨.reportsLost, 0, .reportsLost 65535⟩, ⟨.signalFlags, 0, .signalFlags 0 {}⟩] }
    (asking 0x03#8 s).asks 0x03#8 (slotOf 0x03#8) ∧ s.link.reportsLost = true ∧
      (s.link.reports.filter fun r => r.kind == .reportsLost || (0#16).getLsbD r.kind.place) =
        [] ++ ⟨.reportsLost, 0, .reportsLost 65535⟩ :: [] := by decide +kernel

/-- Four slots taken, and `n` entries in the busy list. -/
def fullBuffer (n : Nat) : State :=
  (run).setLink { (run).link with
    slots := (List.range 4).map fun i => ⟨i, 0x02#8, 0#8, [], if i = 0 then .inHand else .waiting⟩, serial := 4,
    busy := List.replicate n (0x02#8, 0#8), replies := List.replicate n ⟨0x02#8, 0#8, .busy, .none, .busy, none⟩ }

theorem witness_FramesAreWholeOrDropped :
    (run).powered = true ∧ (run).link.rx = none ∧ (run).link.resetPending = false ∧
    (List.replicate 128 (0#8)).length ≤ 128 ∧ crc8 [0x02#8, 0x02#8, 0x01#8] = 0x2F#8 ∧
    crc8 [0x02#8, 0x02#8, 0x01#8] ≠ 0x2E#8 ∧ (asking 0x02#8).link.slots.length < 4 ∧
    (4 ≤ (fullBuffer 3).link.slots.length ∧ (fullBuffer 3).link.busy.length < 4) ∧
    (4 ≤ (fullBuffer 4).link.slots.length ∧ 4 ≤ (fullBuffer 4).link.busy.length) ∧
    (0xB6#8 : Byte) ≠ 0xB7#8 ∧
    ((run).setLink { (run).link with rx := some [2#8] }).link.rx ≠ none ∧
    ((run).setLink { (run).link with rx := some [] }).link.rx = some [] ∧ (1#8).toNat < 2 ∧ 130 < (131#8).toNat := by
  decide +kernel

/-- A reply waits, of slot 0 or of the busy list, with or without a rate; `tx` as given. -/
def replying (src : ReplySource) (rate : Option Rate) (tx : Option Sending) : State :=
  (run).setLink { (run).link with
    slots := [⟨0, 0x07#8, 0#8, [], .answered⟩], serial := 1, busy := [(0x02#8, 0#8)],
    replies := [⟨0x07#8, 0#8, .ok, .none, src, rate⟩], tx := tx }

theorem witness_TransmitterSendsWholeFrames :
    (replying .busy none (some .reply)).link.tx ≠ none ∧
    ((replying .busy none none).link.tx = none ∧ (replying .busy none none).link.replies ≠ []) ∧
    ((run).link.tx = none ∧ (run).link.replies = [] ∧ (run).link.reports = []) ∧
    ((reporting 1).link.tx = none ∧ (reporting 1).link.replies = [] ∧ (reporting 1).link.reportsLost = false ∧
      (reporting 1).link.reports = ⟨.signalFlags, 0, .signalFlags 0 {}⟩ :: []) ∧
    ((reporting 1 true).link.reportsLost = true ∧
      (reporting 1 true).link.reports = ⟨.signalFlags, 0, .signalFlags 0 {}⟩ :: []) ∧
    (let s := (run).setLink { (run).link with
       reports := [⟨.serviceChange, 0, .service true⟩, ⟨.reportsLost, 0, .reportsLost 65535⟩], reportsLost := true,
       lostCount := 3 }
     s.link.tx = none ∧ s.link.replies = [] ∧ s.link.reportsLost = true ∧
       s.link.reports = ⟨.serviceChange, 0, .service true⟩ :: ([] ++ ⟨.reportsLost, 0, .reportsLost 65535⟩ :: [])) ∧
    ((run).setLink { (run).link with tx := some (.report ⟨.serviceChange, 0, .service true⟩) }).powered = true ∧
    (replying (.slot 0) none (some .reply)).link.replies = ⟨0x07#8, 0#8, .ok, .none, .slot 0, none⟩ :: [] ∧
    ((replying .busy none (some .reply)).link.replies = ⟨0x07#8, 0#8, .ok, .none, .busy, none⟩ :: [] ∧
      (replying .busy none (some .reply)).link.busy = (0x02#8, 0#8) :: []) ∧
    (replying (.slot 0) (some .r57600) (some .reply)).link.replies =
      ⟨0x07#8, 0#8, .ok, .none, .slot 0, some .r57600⟩ :: [] := by decide +kernel

/-- A RESET waits and everything it waits for is done. -/
def restarting (pin : Bool) : State :=
  let s := (run).setLink { (run).link with resetPending := true }
  s.setPower { s.power with ignitionPin := pin }

/-- The store holds a good image in which door D0 names K23, the ignition line is on, and the supply is off. -/
def doorStored : State :=
  let d : DoorCfg := { factoryDoor with fitted := true, closed := some 23 }
  (State.reset.setPower { State.reset.power with ignitionPin := true }).setStore
    { State.reset.store with
      config := { ConfigImage.factory with doors := tset ConfigImage.factory.doors 0 d }, configGood := true }

theorem doorStored_lawful : DoorInputLaw doorStored :=
  ⟨(by decide +kernel : ∀ x ∈ doorStored.doors.doors.toList, ∀ k ∈ doorInputs x.cfg, k ≤ 23),
    (by decide +kernel : ∀ c ∈ doorStored.store.config.doors.toList, ∀ k ∈ doorInputs c, k ≤ 23),
    fun _ _ h => by cases h⟩

theorem witness_StartLoadsTheStore :
    DoorInputLaw doorStored ∧ (doorStored.powered = false ∧ doorStored.power.ignitionPin = true ∧
      doorInputs (tget doorStored.store.config.doors 0) = [23]) ∧
    (run).powered = true ∧ (State.reset.powered = false ∧ State.reset.power.ignitionPin = false) ∧
    (State.reset.setPower { State.reset.power with ignitionPin := true }).powered = false ∧
    ((restarting false).powered = true ∧ (restarting false).power.ignitionPin = false ∧
      (restarting false).link.resetPending = true ∧ (restarting false).link.replies = [] ∧
      (restarting false).link.tx = none ∧ (∀ y ∈ (restarting false).link.slots, y.stage ≠ .deferred) ∧
      (restarting false).power.commit = [] ∧ (restarting false).power.writing = none) ∧
    ((restarting true).power.ignitionPin = true ∧ (restarting true).link.resetPending = true) ∧
    (run).link.resetPending = false ∧
    (let s := doorStored.setStore { doorStored.store with doorCountsGood := true }
     s.store.countersGood = false ∧ s.store.faultsGood = false ∧ s.store.doorCountsGood = true) :=
  ⟨doorStored_lawful, by decide +kernel⟩

/-- The filter has run and the line stands at `pin`, in mode `m`. -/
def filtered (m : Mode) (pin : Bool) : State :=
  (inMode m).setPower { (inMode m).power with filterOn := true, ignitionPin := pin, ignitionTaken := !pin }

theorem witness_RunEntryRestartsBlocks :
    (run).power.filterOn = false ∧ (filtered .sleep true).power.mode = .sleep ∧
    (filtered .sleep true).power.filterOn = true ∧ (filtered .sleep true).power.ignitionPin = true ∧
    (0 < 32 ∧ tget (filtered .sleep true).warnings.telltales 31 ≠ ⟨.off, .steady⟩) ∧
    ((withWarn 31 (Warning.powerOn { w5 with log := true }) (filtered .sleep true)).warn 31).cfg.log = true ∧
    (0x07FF#16).getLsbD ReportKind.powerChange.place = true := by decide +kernel

theorem witness_AfterrunEntersReturnsAndEnds :
    ((filtered .run false).power.filterOn = true ∧ (filtered .run false).power.mode = .run ∧
      (filtered .run false).power.ignitionPin = false) ∧
    ((filtered .afterrun true).power.mode = .afterrun ∧ (filtered .afterrun true).power.ignitionPin = true) ∧
    ((filtered .sleep false).power.mode = .sleep ∧ (filtered .sleep false).power.ignitionPin = false) ∧
    FaultRecordsLaw (inMode .afterrun).faults.records ∧ (run).power.mode ≠ .afterrun ∧
    (inMode .afterrun).power.afterrunOn = false ∧ (inMode .afterrun).afterrunDone = true ∧
    ((inMode .afterrun).setPower { (inMode .afterrun).power with afterrunOn := true }).power.mode = .afterrun := by
  refine ⟨by decide +kernel, by decide +kernel, by decide +kernel, ⟨by decide, by decide⟩, ?_⟩; decide +kernel

/-- A write in flight of an item as it stands, and `commit` behind it. -/
def writing (i : Item) (commit : List Item) (saving : Option (Nat × Tag32) := none) : State :=
  let s := asking 0x30#8
  s.setPower { s.power with writing := some (s.writeOf i), commit := commit, saving := saving }

theorem witness_StoreWritesCompleteOrBreak :
    State.reset.powered = false ∧ (run).powered = true ∧ (run).power.writing = none ∧
    (writing .config []).power.writing = some ((writing .config []).writeOf .config) ∧
    ((writing .faults [.config]).power.writing.map fun w => w.data.item) = some .faults ∧
    Item.config ∈ (writing .faults [.config]).power.commit ∧ Item.counters ∉ (writing .faults [.config]).power.commit ∧
    (writing .config [] (some (0, 9#32))).power.saving = some (0, 9#32) ∧
    (writing .config [] (some (0, 9#32))).link.slots.find? (·.serial == 0) = some (slotOf 0x30#8) := by decide +kernel

theorem witness_ConfigurationIsSavedAndRestored :
    (asking 0x05#8).asks 0x05#8 (slotOf 0x05#8) ∧ (asking 0x05#8).power.saving = none ∧
    (asking 0x05#8).power.writing = none ∧ (asking 0x05#8).power.commit = [] ∧
    (asking 0x05#8 (writing .counters [] (some (9, 0#32)))).asks 0x05#8 (slotOf 0x05#8) ∧
    (asking 0x05#8 (writing .counters [] (some (9, 0#32)))).power.saving ≠ none ∧
    (asking 0x05#8 (writing .counters [])).power.writing ≠ none ∧
    (asking 0x06#8).asks 0x06#8 (slotOf 0x06#8) := by decide +kernel

/-- Record `i` of quality `q`, range 0 to 100, hold limit and substitute as given. -/
def recordAs (q : Quality) (hold : Nat) (substitute : Option Int) (forced : Bool := false) : SigRec :=
  ⟨⟨0, 100, hold, substitute, 50, true⟩, 20, q, 5, {}, forced, ⟨q == .held, 0⟩, Timer.stopped⟩

theorem witness_RecordsTakeTheirWrites :
    ((withSig 63 (recordAs .valid 1 none true)).sig 63).forced = true ∧
    (((withSig 0 (recordAs .valid 1 none)).sig 0).forced = false ∧
      ((withSig 0 (recordAs .valid 1 none)).sig 0).cfg.rangeMin ≤ ((withSig 0 (recordAs .valid 1 none)).sig 0).cfg.rangeMax) ∧
    ((withSig 0 (recordAs .held 0 (some 50))).sig 0).quality = .held ∧
    (0 < 64 ∧ 63 < 64) ∧ ((11 < 12 ∨ (12 < 11 ∧ 11 < 16) ∨ 40 ≤ 11) ∧ ((13 : Nat) < 12 ∨ (12 < 13 ∧ 13 < 16) ∨ 40 ≤ 13)) ∧
    ((0 : Nat) < 24 ∧ 16 = 16 + 0) ∧ (23 < 24 ∧ 39 = 16 + 23) := by decide +kernel

theorem witness_SignalRequestsAreTaken :
    let host (r : SigRec) : State := asking 0x11#8 (withSig 52 r)
    (asking 0x11#8).asks 0x11#8 (slotOf 0x11#8) ∧ (63 < 64 ∧ 51 < 52) ∧ (52 ≤ 52 ∧ 52 ≤ 63 ∧ 63 ≤ 63) ∧
    (asking 0x11#8 (inMode .sleep)).active = false ∧ (asking 0x11#8).active = true ∧
    ((host (recordAs .valid 0 none true)).sig 52).forced = true ∧
    (((host (recordAs .valid 0 none)).sig 52).forced = false ∧
      ((host (recordAs .valid 0 none)).sig 52).cfg.rangeMin ≤ 0 ∧ 100 ≤ ((host (recordAs .valid 0 none)).sig 52).cfg.rangeMax ∧
      ((host (recordAs .valid 0 none)).sig 52).cfg.rangeMax < 101 ∧
      -1 < ((host (recordAs .valid 0 none)).sig 52).cfg.rangeMin) ∧
    ((asking 0x10#8).asks 0x10#8 (slotOf 0x10#8) ∧ 12 < (List.replicate 13 0#8).length) ∧
    (asking 0x10#8 run (List.replicate 12 63#8)).asks 0x10#8 (slotOf 0x10#8 (List.replicate 12 63#8)) ∧
    ((63#8).toNat ≤ 63 ∧ 63 < (64#8).toNat) ∧
    ((asking 0x14#8).asks 0x14#8 (slotOf 0x14#8) ∧ (asking 0x15#8).asks 0x15#8 (slotOf 0x15#8) ∧
      (asking 0x13#8).asks 0x13#8 (slotOf 0x13#8)) ∧
    ((asking 0x14#8 serviced).sig 51).quality = .valid ∧ ((asking 0x14#8 serviced).sig 51).value = 1 ∧
    ((asking 0x14#8).sig 51).quality ≠ .valid ∧
    ((asking 0x14#8 serviced).sig 0).cfg.rangeMax < 4096 ∧ (4095 : Int) ≤ ((asking 0x14#8 serviced).sig 0).cfg.rangeMax ∧
    ((asking 0x15#8 (withSig 0 (recordAs .valid 0 none true))).sig 0).forced = true := by decide +kernel

theorem witness_SignalConfigTakesEffect :
    (asking 0x12#8).asks 0x12#8 (slotOf 0x12#8) ∧ (63 < 64 ∧ ¬(1 : Int) ≤ 0) ∧
    (let c := factorySig 40
     c.rangeMin ≤ c.rangeMax ∧ c.substitute = none ∧ c.rangeMin = (factorySig 40).rangeMin) ∧
    ((factorySig 50).rangeMin ≤ (factorySig 50).rangeMax ∧ (40 ≤ 50 ∧ 50 < 52)) ∧
    ((factorySig 51).rangeMin = 0 ∧ (factorySig 51).holdLimit = 0 ∧ ¬(1 : Nat) = (factorySig 51).holdLimit) ∧
    (39 < 40 ∧ 52 ≤ 52 ∧ 63 ≤ 63) ∧ (0 : Int) ≤ 0 ∧
    (∀ i ∈ [40, 51], ((run).sig i).cfg.rangeMin ≤ ((run).sig i).value ∧ ((run).sig i).value ≤ ((run).sig i).cfg.rangeMax ∧
      ((run).sig i).quality = .failed ∧ ((run).sig i).refresh = ⟨false, 0⟩) ∧
    ((serviced.sig 51).quality = .valid ∧ (serviced.sig 51).value = 1 ∧ (serviced.sig 51).cfg.rangeMax = 1) := by decide +kernel

/-- In SLEEP a SIGNAL_CONFIG leaves the count of a refresh timer as SLEEP entry left it (R6); in RUN it restarts a running
one (R8). -/
theorem test_refresh_under_config :
    let slot (m : Mode) (b : Bool) := asking 0x12#8 (withSig 52 { (run).sig 52 with refresh := ⟨b, 7⟩ } (inMode m))
    let c : SigCfg := { factorySig 52 with refreshLimit := 100 }
    ((after (.signalConfig .good 52 c) (slot .sleep false)).sig 52).refresh = ⟨false, 7⟩ ∧
      ((after (.signalConfig .good 52 c) (slot .run true)).sig 52).refresh = ⟨true, 0⟩ := by decide +kernel

theorem witness_SignalTimersRun :
    (inMode .sleep).active = false ∧ (run).active = true ∧
    (let r := (withSig 0 (recordAs .valid 1 none)).sig 0; r.quality ≠ .held ∧ r.refresh.running = false) ∧
    (let r := (withSig 0 { recordAs .held 2 none with hold := ⟨true, 0⟩ }).sig 0
     r.quality = .held ∧ r.hold.running = true ∧ r.refresh.running = false ∧ r.hold.elapsed + 1 < r.cfg.holdLimit) ∧
    (let r := (withSig 63 { recordAs .held 2 none with hold := ⟨true, 1⟩ }).sig 63
     r.quality = .held ∧ r.hold.running = true ∧ r.cfg.holdLimit ≤ r.hold.elapsed + 1) ∧
    (let r := (withSig 52 { recordAs .valid 2 none with refresh := ⟨true, 48⟩ }).sig 52
     r.refresh.running = true ∧ r.refresh.elapsed + 1 < r.cfg.refreshLimit) ∧
    (let r := (withSig 63 { recordAs .valid 2 none with refresh := ⟨true, 49⟩ }).sig 63
     r.refresh.running = true ∧ r.cfg.refreshLimit ≤ r.refresh.elapsed + 1 ∧ r.forced = false ∧ r.quality = .valid ∧
       0 < r.cfg.holdLimit) ∧
    ((recordAs .valid 2 none true).forced = true ∧ (recordAs .failed 2 none).quality ≠ .valid) := by decide +kernel

/-- P0 capturing, with a filter width, a settled level, a wiring judgement. -/
def capturing (x : PulseChan → PulseChan) : State :=
  (run).setPulse (tset (run).pulse 0 (x { (run).chan 0 with windowTimer := some 20, biasOn := true }))

theorem witness_EdgesMakePeriods :
    (((run).chan 0).pin = false ∧ ((run).chan 0).capturing = false ∧ ((run).chan 0).qual = none) ∧
    ((capturing id).chan 0).capturing = true ∧
    (((capturing fun x => { x with settled := true }).chan 0).settled = true) ∧
    (((capturing fun x => { x with cfg := { x.cfg with width := 1 } }).chan 0).cfg.width = 1) ∧
    (((capturing id).chan 0).cfg.width = 0 ∧ true ≠ ((capturing id).chan 0).settled) ∧
    (((capturing fun x => { x with qual := some 5 }).chan 0).qual = some 5) := by decide +kernel

theorem witness_WindowsAreEvaluated :
    ((run).chan 0).capturing = false ∧ ((capturing id).chan 0).capturing = true ∧
    ((capturing fun x => { x with wiring := ⟨.faultOpen, none, none⟩ }).chan 0).wiring.judgement = .faultOpen ∧
    (((capturing fun x => { x with abortHold := true }).chan 0).abortHold = true ∧
      ((capturing fun x => { x with abortHold := true }).chan 0).n = 0) ∧
    ((capturing id).chan 0).wiring.judgement = .clean ∧ ((3 : Fin 4) = 2 ∨ (3 : Fin 4) = 3) := by decide +kernel

theorem witness_WiringIsJudged :
    (Wiring.mk .suspectOpen (some 0) none).suspicion = some 0 ∧ (99999 - 0 < 100 * 1000 ∧ 100 * 1000 ≤ 100000 - 0) ∧
    (Wiring.mk .faultShort none none).recovery = none ∧ (Wiring.mk .faultShort none (some 0)).recovery = some 0 ∧
    ((run).chan 0).capturing = false ∧ ((run).chan 0).biasOn = false ∧
    (((capturing fun x => { x with reference := some 0 }).chan 0).biasOn = true ∧
      ((capturing fun x => { x with reference := some 0 }).chan 0).gap 999999 < 1000 * 1000) ∧
    ((capturing id).chan 0).cfg.timeout * 1000 ≤ ((capturing id).chan 0).gap 0 := by decide +kernel

theorem witness_PulseConfigTakesEffect :
    (asking 0x20#8).asks 0x20#8 (slotOf 0x20#8) ∧ (3 < 4 ∧ 3 ≤ 3) ∧ (asking 0x20#8 (inMode .sleep)).active = false ∧
    (asking 0x20#8).active = true ∧ ((asking 0x20#8).chan 3).cfg.enable = true ∧
    ((asking 0x20#8 (capturing fun x => { x with cfg := { x.cfg with enable := false } })).chan 0).cfg.enable = false ∧
    ¬((capturing id).chan 0).cfg.scaleD = 6401 := by decide +kernel

theorem witness_LogReadAndRepeater :
    (asking 0x21#8).asks 0x21#8 (slotOf 0x21#8) ∧ (3 < 4 ∧ 3 ≤ 3) ∧ (asking 0x22#8).asks 0x22#8 (slotOf 0x22#8) ∧
    (run).active = true ∧ ((hand .repeater (inMode .sleep)).powered = true ∧
      Handoff.repeater ∈ (hand .repeater (inMode .sleep)).handed) ∧
    (run).repeater.half = none ∧
    ((run).setRepeater { (run).repeater with half := some 5625 }).repeater.half = some 5625 := by decide +kernel

/-- Sender 0 sampling, its wiring as given. -/
def sampling (w : Wiring) : State := (run).setSenders (tset (run).senders 0 ⟨{ factorySender with enable := true }, none, w, true⟩)

theorem witness_SendersInterpolateAndSample :
    (0 : Int) < 1 ∧ (([(0, 5), (10, 1)] : List (Int × Int)).map Prod.fst).Pairwise (· < ·) ∧
    ([(0, 5), (10, 1)] : List (Int × Int)) = [] ++ (0, 5) :: (10, 1) :: [] ∧ ((0 : Int) ≤ 0 ∧ (10 : Int) ≤ 10) ∧
    ([(0, 5), (10, 1)] : List (Int × Int)) = [(0, 5)] ++ [(10, 1)] ∧ ((-1 : Int) < 0 ∧ (10 : Int) < 11) ∧
    ((run).sender 0).sampleOn = false ∧
    (((sampling Wiring.clean).sender 0).sampleOn = true ∧ (sampling Wiring.clean).supply.underLimit = false ∧
      ¬((sampling Wiring.clean).sender 0).cfg.openAt ≤ 3999 ∧ ¬(61 : Nat) ≤ ((sampling Wiring.clean).sender 0).cfg.shortAt) ∧
    (((sampling ⟨.faultOpen, none, some 0⟩).sender 0).wiring.lineNext .within 2000000 1000 2000).judgement = .clean ∧
    (((sampling ⟨.faultOpen, none, some 0⟩).sender 0).wiring.lineNext .within 1999999 1000 2000).judgement = .faultOpen ∧
    (((sampling ⟨.suspectShort, some 0, none⟩).sender 0).wiring.lineNext .below 1000000 1000 2000).judgement = .faultShort ∧
    (((sampling ⟨.suspectShort, some 0, none⟩).sender 0).wiring.lineNext .below 999999 1000 2000).judgement =
      .suspectShort := by decide +kernel

theorem witness_InputConfigsTakeEffect :
    (asking 0x28#8).asks 0x28#8 (slotOf 0x28#8) ∧
    (11 ≤ 11 ∧ ¬12 ≤ 11) ∧ (2 ≤ factorySender.curve.length ∧ factorySender.curve.length ≤ 10 ∧
      (∀ p ∈ factorySender.curve, p.1 ≤ 4095 ∧ -8000000 ≤ p.2 ∧ p.2 ≤ 8000000) ∧
      (factorySender.curve.map Prod.fst).Pairwise (· < ·) ∧ factorySender.shortAt < factorySender.openAt) ∧
    (asking 0x28#8 (inMode .sleep)).active = false ∧ (asking 0x28#8).active = true ∧
    ((asking 0x28#8).sender 0).cfg.enable = false ∧
    ((asking 0x28#8 (sampling ⟨.faultOpen, none, none⟩)).sender 0).cfg.enable = true ∧
    ((asking 0x28#8 (sampling ⟨.faultOpen, none, none⟩)).sender 0).wiring.judgement = .faultOpen ∧
    (let s := asking 0x29#8 ((run).setSwitches (tset (run).switches 0
       ⟨{ factorySwitch with kind := .coded }, none, none, ⟨.faultShort, none, none⟩, true, false⟩))
     (s.switch 0).wiring.judgement = .faultShort ∧ (s.switch 0).cfg.kind ≠ factorySwitch.kind) ∧
    (asking 0x29#8).asks 0x29#8 (slotOf 0x29#8) ∧ (23 ≤ 23 ∧ ¬24 ≤ 23) ∧
    (factorySwitch.shortLimit < factorySwitch.split ∧ factorySwitch.split < factorySwitch.openLimit ∧
      factorySwitch.openLimit ≤ 4095) ∧
    (∀ d, d < 4 → doorAssigns ((asking 0x29#8).door d).cfg 23 = false) ∧
    ((asking 0x29#8 (withSig 16 (recordAs .valid 1 none))).sig 16).quality = .valid ∧
    ((asking 0x29#8).sig 50).forced = false := by decide +kernel

/-- The role taken from the brake switch at 200 km/h ends the service mode and withdraws permission; the override role given
to an active switch releases the interlock; a debounce moves no role (R144, R146, R166). -/
theorem witness_InputConfigsTakeEffect_roles :
    let held := withSwitch 3 { factorySwitch with role := .parkingBrake } (valid 12 20000 (valid 19 1))
    let s := asking 0x29#8 (serviced (held.setDoors { held.doors with permission := true }))
    let t := after (.switchConfig .good 3 factorySwitch) s
    let s1 := asking 0x29#8 ((valid 21 1).setDoors { (run).doors with interlock := true })
    let t1 := after (.switchConfig .good 5 { factorySwitch with role := .override }) s1
    let t2 := after (.switchConfig .good 3 { factorySwitch with role := .parkingBrake, debounce := 90 }) s
    (s.holderOf .parkingBrake = some 3 ∧ t.holderOf .parkingBrake = none ∧ t.faults.service = false ∧
      t.doors.permission = false) ∧
    (s1.holderOf .override = none ∧ t1.holderOf .override = some 5 ∧ t1.doors.interlock = false) ∧
    (t2.holderOf .parkingBrake = some 3 ∧ t2.holderOf .override = none ∧ t2.faults.service = true) ∧
    ((s.sig 51).forced = false ∧ (s.sig 51).cfg.rangeMin = 0 ∧ (s.sig 51).cfg.rangeMax = 1) := by decide +kernel

/-- PARKING_BRAKE given to an input whose record is forced, in SLEEP and in RUN, its kind and boundaries as they were. -/
theorem witness_InputConfigsTakeEffect_lifts :
    let forced (m : Mode) : State := asking 0x29#8 (withSig 39 (recordAs .valid 1 none true) (inMode m))
    ((forced .sleep).active = false ∧ ((forced .sleep).sig (16 + 23)).forced = true ∧
      ((forced .sleep).sig (16 + 23)).quality ≠ .failed) ∧
    ((forced .run).active = true ∧ ((forced .run).sig (16 + 23)).forced = true ∧
      ((forced .run).switch 23).cfg = factorySwitch) := by decide +kernel

/-- Input K0 sampling as a CODED switch with the wiring given. -/
def coded (w : Wiring) : State :=
  (run).setSwitches (tset (run).switches 0 ⟨{ factorySwitch with kind := .coded }, some true, none, w, true, true⟩)

theorem witness_SwitchesAreDebounced :
    ((run).switch 0).sampleOn = false ∧
    (let c := ((run).setSwitches (tset (run).switches 0 { (run).switch 0 with sampleOn := true })).switch 0
     c.sampleOn = true ∧ c.cfg.kind = .plain ∧ c.debounced ≠ some true ∧ (∀ n, n < 3 → c.candidate ≠ some (true, n))) ∧
    (19999 - 0 < 20 * 1000 ∧ 20 * 1000 ≤ 20000 - 0) ∧
    (((coded Wiring.clean).switch 0).cfg.kind = .coded ∧ ((coded Wiring.clean).switch 0).cfg.shortLimit < 61 ∧
      3999 < ((coded Wiring.clean).switch 0).cfg.openLimit ∧ ((coded Wiring.clean).switch 0).wiring.judgement = .clean ∧
      (60 ≤ ((coded Wiring.clean).switch 0).cfg.shortLimit ∧ ((coded Wiring.clean).switch 0).cfg.openLimit ≤ 4000)) ∧
    ((coded ⟨.suspectOpen, some 0, none⟩).switch 0).wiring.judgement ≠ .clean ∧
    (((coded ⟨.faultOpen, none, some 0⟩).switch 0).wiring.lineNext .within 2000000 1000 2000).judgement = .clean ∧
    (((coded ⟨.faultOpen, none, some 0⟩).switch 0).wiring.lineNext .within 1999999 1000 2000).judgement ≠ .clean ∧
    (((coded ⟨.suspectOpen, some 0, none⟩).switch 0).wiring.lineNext .above 1000000 1000 2000).judgement = .faultOpen ∧
    (((coded Wiring.clean).switch 0).refreshOn = true ∧ ((coded Wiring.clean).switch 0).debounced = some true) := by
  decide +kernel

/-- The supply is measured; a condition stands or a run has begun. -/
def measuring (x : Supply → Supply) : State := (run).setSupply (x { (run).supply with measureOn := true })

/-- Under the cut a command changes no state; the output follows it when the cut ends, and the door supervisor hears of it
(R59 to R61). -/
theorem test_cut_keeps_command :
    let x := { (run).out 3 with owner := .interlock, force := some true, cut := true }
    let s := withOut 3 x (measuring fun y => { y with overLimit := true })
    x.follow = x ∧ ((after (.supplyMeasure 30999 0) s).out 3).state = .on ∧
      Handoff.interlockOutput ∈ (after (.supplyMeasure 30999 0) s).handed ∧
      (after (.supplyMeasure 31000 0) s).out 3 = x := by decide +kernel

/-- A parked gauge's coils hold in AFTERRUN and are unpowered in SLEEP (5.3, R86). -/
theorem test_coils :
    let x := { (run).gauge 0 with state := .parked }
    (withGauge 0 x (inMode .afterrun)).coils 0 = .holding ∧ (withGauge 0 x (inMode .sleep)).coils 0 = .unpowered := by
  decide +kernel

theorem witness_SupplyIsWatched :
    (run).supply.measureOn = false ∧ (measuring id).supply.measureOn = true ∧
    ((measuring id).supply.overLimit = false ∧ 32000 < 32001) ∧
    ((measuring fun x => { x with overLimit := true }).supply.overLimit = true ∧ 30999 < 31000) ∧
    (((run).sig 48).forced = false ∧ ((run).sig 48).cfg.rangeMin ≤ ((run).sig 48).cfg.rangeMax ∧
      ((run).sig 48).cfg.rangeMax = 40000) ∧
    ((withSig 48 { (run).sig 48 with forced := true } (measuring id)).sig 48).forced = true ∧
    ((withOut 15 { (run).out 15 with owner := .interlock, cut := true } (measuring fun x =>
      { x with overLimit := true })).out 15).owner = .interlock ∧
    ((measuring fun x => { x with lowRun := some 0 }).supply.lowRun = some 0 ∧ 15999 < 16000 ∧
      100000 ≤ 100000 - 0 ∧ 99999 - 0 < 100000) ∧
    ((measuring fun x => { x with underLimit := true, highRun := some 0 }).supply.underLimit = true ∧ 17000 < 17001) ∧
    ((withSig 0 (recordAs .valid 1 none)).sig 0).quality = .valid ∧
    ((withGauge 0 { (run).gauge 0 with state := .homing }).gauge 0).state ≠ .unhomed ∧
    ((measuring fun x => { x with underLimit := true, reportOn := true }).supply.underLimit = true ∧
      (measuring fun x => { x with underLimit := true, reportOn := true }).supply.reportOn = true) ∧
    (measuring id).supply.underLimit = false := by decide +kernel

theorem witness_OutputsTakeOwnersAndForces :
    (15 < 16 ∧ ¬15 < 15) ∧ ((run).out 15).state = .off ∧ ((withOut 15 { (run).out 15 with state := .on }).out 15).state = .on ∧
    ((withOut 15 { (run).out 15 with state := .lockedOut }).out 15).state = .lockedOut ∧
    (((run).out 15).cut = false ∧ ((withOut 15 { (run).out 15 with cut := true }).out 15).cut = true) ∧
    (run).ownerRequest ((run).out 0).owner = ((run).out 0).request ∧
    (let s := withOut 0 { (run).out 0 with owner := .release, request := true }
     s.ownerRequest (s.out 0).owner = false ∧ false ≠ (s.out 0).request) ∧
    ((asking 0x2A#8).asks 0x2A#8 (slotOf 0x2A#8) ∧ 31 < 32 ∧ 31 ≤ 31) ∧ (asking 0x2B#8).asks 0x2B#8 (slotOf 0x2B#8) ∧
    ((withOut 0 { (run).out 0 with owner := .interlock }).out 0).owner = .interlock ∧
    ((asking 0x2C#8).asks 0x2C#8 (slotOf 0x2C#8) ∧ (asking 0x2C#8).outputs.service = false) ∧
    (asking 0x2C#8 serviced).outputs.service = true ∧ (run).active = true ∧
    ((hand (.outputService false) (inMode .sleep)).powered = true ∧
      Handoff.outputService false ∈ (hand (.outputService false) (inMode .sleep)).handed) := by decide +kernel

/-- Output 0 sensed in a state. -/
def sensed (x : Output → Output) : State := withOut 0 (x { (run).out 0 with senseOn := true })

theorem witness_OutputLinesAreJudged :
    (((run).out 0).state = .off ∧ ((run).out 0).senseOn = false) ∧
    (let y := (sensed fun x => { x with request := true, state := .openLoad, shortCount := 2 }).out 0
     y.cut = false ∧ y.state = .openLoad ∧ y.force.getD y.request = true ∧ ¬y.shortCount + 1 < 3) ∧
    (let y := (sensed fun x => { x with state := .shortWait, retryOn := true }).out 0
     y.state = .shortWait ∧ y.retryOn = true) ∧
    (let y := (sensed fun x => { x with state := .on, provingOn := true }).out 0
     y.state = .on ∧ y.provingOn = true) ∧
    (let y := (sensed fun x => { x with openRun := some 0 }).out 0
     y.senseOn = true ∧ y.cut = false ∧ y.state = .off ∧ y.openRun = some 0 ∧ 200 * 1000 ≤ 200000 - 0 ∧ 199999 - 0 < 200 * 1000) ∧
    (let y := (sensed fun x => { x with state := .openLoad, loadRun := some 0, energizedRun := some 0 }).out 0
     y.state = .openLoad ∧ y.loadRun = some 0 ∧ y.energizedRun = some 0) ∧
    (let y := (sensed fun x => { x with state := .supplyShort, followRun := some 0 }).out 0
     y.state = .supplyShort ∧ y.followRun = some 0 ∧ 500 * 1000 ≤ 500000 - 0 ∧ 499999 - 0 < 500 * 1000) := by
  decide +kernel

/-- A hand-off left over at a SLEEP entry is counted, and signal 49 is not written (R66). -/
theorem test_distance_handoff_in_sleep_writes_no_signal :
    let s := hand (.distance 3) { carrying with power := { carrying.power with mode := .sleep } }
    let t := after (.distanceHandoff 3) s
    t.distance.record.service = 0 ∧ t.sig 49 = s.sig 49 := by decide +kernel

theorem witness_HandoffsBecomeDistance :
    0 < ((carrying).chan 0).cfg.scaleD ∧ totalOk (carrying).distance.record.total ∧
    (carrying).distance.record.tripA.length = 5 ∧ (carrying).distance.record.tripB.length = 5 ∧
    (∀ d ∈ (carrying).distance.record.tripA, d ≤ 9) ∧ (∀ d ∈ (carrying).distance.record.tripB, d ≤ 9) ∧
    (carrying).active = true ∧
    ((hand (.distance 3) (inMode .sleep)).powered = true ∧ Handoff.distance 3 ∈ (hand (.distance 3) (inMode .sleep)).handed) ∧
    -9999 ≤ (carrying).distance.record.service ∧
    ((carrying).sig 49).forced = false ∧
    0 < (digitsVal (carrying).distance.record.total + ((carrying).distance.r + 30) / ((carrying).chan 0).cfg.scaleD) / 10 -
      digitsVal (carrying).distance.record.total / 10 := by
  refine ⟨by decide +kernel, ⟨by decide, by decide⟩, ?_⟩; decide +kernel

theorem witness_TripResetClearsOneTrip : (asking 0x31#8).asks 0x31#8 (slotOf 0x31#8) ∧
    (asking 0x31#8 (inMode .sleep)).asks 0x31#8 (slotOf 0x31#8) := by decide +kernel

/-- The hours gate open, the sub-accumulator and hours as given. -/
def counting (sub : Nat) (hours : List Nat) : State :=
  (run).setDistance { (run).distance with
    gate := true, sub := sub, refreshOn := true, record := { (run).distance.record with hours := hours, serviceValid := true } }

theorem witness_WorkshopSetsAndHoursCount :
    ((asking 0x32#8 carrying).asks 0x32#8 (slotOf 0x32#8) ∧ 99999999 < 100000000 ∧
      (asking 0x32#8 carrying).distance.record.totalValid = true ∧
      1234568 < digitsVal (asking 0x32#8 carrying).distance.record.total) ∧
    (asking 0x32#8).distance.record.totalValid = false ∧
    ((asking 0x33#8).asks 0x33#8 (slotOf 0x33#8) ∧ ((asking 0x33#8).sig 49).forced = false ∧
      ((asking 0x33#8).sig 49).cfg.rangeMin ≤ 1 ∧ 65535 ≤ ((asking 0x33#8).sig 49).cfg.rangeMax) ∧
    (asking 0x33#8 (inMode .sleep)).active = false ∧ (asking 0x30#8).asks 0x30#8 (slotOf 0x30#8) ∧
    ((counting 0 [0, 0, 0, 0, 0, 0]).active = true ∧ (counting 0 [0, 0, 0, 0, 0, 0]).distance.refreshOn = true ∧
      (counting 0 [0, 0, 0, 0, 0, 0]).distance.record.serviceValid = true) ∧
    ((run).distance.gate = false ∧ (run).distance.refreshOn = false) ∧
    (∀ d ∈ (counting 359999 [9, 9, 9, 9, 9, 9]).distance.record.hours, d = 9) ∧
    (¬(∀ d ∈ (counting 359998 [8, 9, 9, 9, 9, 9]).distance.record.hours, d = 9) ∧
      (counting 359998 [8, 9, 9, 9, 9, 9]).distance.sub + 1 < 360000) ∧
    360000 ≤ (counting 359999 [8, 9, 9, 9, 9, 9]).distance.sub + 1 := by decide +kernel

theorem witness_PointersFollowTheMotionLaw :
    ((run).gauge 0).state = .unhomed ∧
    (let driven (s : State) : Prop := s.active = true ∧ (s.gauge 0).motionOn = true ∧ s.supply.underLimit = false ∧
       (s.gauge 0).state ≠ .unhomed ∧ (s.gauge 0).state ≠ .fault
     let at_ (st : GaugeState) (f : Gauge → Gauge) : State := withGauge 0 (f { (tracking 10 0 20).gauge 0 with state := st })
     (driven (tracking 10 0 20) ∧ ((tracking 10 0 20).gauge 0).tracked = some ⟨20, false⟩) ∧
     (driven (at_ .sweep id) ∧ ((at_ .sweep id).gauge 0).state = .sweep) ∧
     (driven (at_ .test fun x => { x with testPos := some 0 }) ∧
       ((at_ .test fun x => { x with testPos := some 0 }).gauge 0).testPos = some 0) ∧
     driven (at_ .parking id) ∧ driven (at_ .parked id) ∧
     (driven (at_ .homing id) ∧ ((at_ .homing id).gauge 0).p ≠ 0) ∧
     (((at_ .homing fun x => { x with p := 0, overrun := 92 }).gauge 0).p = 0 ∧
       ((at_ .homing fun x => { x with p := 0, overrun := 92 }).gauge 0).overrun + 2 < 96) ∧
     96 ≤ ((at_ .homing fun x => { x with p := 0, overrun := 94 }).gauge 0).overrun + 2) := by decide +kernel

theorem witness_TargetsAreAdopted :
    let s := withGauge 0 { (run).gauge 0 with updateOn := true }
    let f := (withGauge 0 { (run).gauge 0 with freeze := some ⟨true, true⟩ }).setSupply { (run).supply with underLimit := true }
    (s.active = true ∧ (s.gauge 0).updateOn = true ∧ (s.gauge 0).tracked = none) ∧ ((run).gauge 0).updateOn = false ∧
    (f.active = true ∧ f.supply.underLimit = true ∧ (f.gauge 0).freeze = some ⟨true, true⟩) ∧ (run).supply.underLimit = false ∧
    ((hand (.gaugeService false) (inMode .sleep)).powered = true ∧
      Handoff.gaugeService false ∈ (hand (.gaugeService false) (inMode .sleep)).handed) := by decide +kernel

theorem witness_GaugeRequestsAreTaken :
    (asking 0x40#8).asks 0x40#8 (slotOf 0x40#8) ∧ (5 ≤ 5 ∧ ¬6 ≤ 5) ∧
    (let c : GaugeCfg := { factoryGauge with source := some 63, pmax := 60, curve := [(0, 0), (1, 60)], failPos := 60 }
     (∀ n ∈ c.source.toList, n ≤ 63) ∧ 60 ≤ c.pmax ∧ c.pmax ≤ 4095 ∧ 2 ≤ c.curve.length ∧ c.curve.length ≤ 8 ∧
       (c.curve.map Prod.fst).Pairwise (· < ·) ∧ (∀ p ∈ c.curve, p.2 ≤ c.pmax) ∧ c.failPos ≤ c.pmax) ∧
    ((asking 0x42#8).asks 0x42#8 (slotOf 0x42#8) ∧ (asking 0x42#8).gauges.service = false) ∧
    ((asking 0x42#8 serviced).gauges.service = true ∧ ((asking 0x42#8 serviced).gauge 5).cfg.pmax < 3241 ∧
      3240 ≤ ((asking 0x42#8 serviced).gauge 5).cfg.pmax ∧ ((asking 0x42#8 serviced).gauge 5).state = .unhomed) ∧
    ((tracking 10 0 20).gauge 0).state = .tracking ∧
    ((withGauge 0 { (run).gauge 0 with state := .test }).gauge 0).state = .test ∧
    ((asking 0x43#8).asks 0x43#8 (slotOf 0x43#8) ∧ (asking 0x43#8).active = true ∧ (asking 0x43#8).supply.underLimit = false) ∧
    (asking 0x43#8 (inMode .sleep)).active = false ∧
    (asking 0x43#8 (measuring fun x => { x with underLimit := true })).supply.underLimit = true ∧
    (asking 0x41#8).asks 0x41#8 (slotOf 0x41#8) := by decide +kernel

theorem witness_ConditionsFollowTheirTables :
    ((valid 4 540).sig 4).quality = .valid ∧ ((run).sig 4).quality ≠ .valid ∧
    (let sup : Nat → Option Nat := fun i => if i < 5 then some (i + 1) else none
     sup 5 = none ∧ sup 0 = some 1 ∧ (1 : Nat) ≠ 0 ∧ sup 1 = some 2 ∧ sup 2 = some 3 ∧ sup 3 = some 4 ∧ sup 4 ≠ none) ∧
    (let sup : Nat → Option Nat := fun i => if i = 0 then some 0 else if i = 2 then some 3 else if i = 3 then some 2 else none
     sup 0 = some 0 ∧ sup 2 = some 3 ∧ sup 3 = some 2) ∧
    (let sup : Nat → Option Nat := fun i => if i < 3 then some (i + 1) else some 0
     sup 0 = some 1 ∧ sup 1 = some 2 ∧ sup 2 = some 3 ∧ sup 3 = some 0) ∧
    (WState.active = .active ∨ WState.active = .offDelay ∨ WState.active = .latched) ∧
    ¬(WState.onDelay = .active ∨ WState.onDelay = .offDelay ∨ WState.onDelay = .latched) := by decide

theorem witness_ScanStepsEveryWarning :
    (run).warnings.scanOn = false ∧ (scanning (Warning.powerOn w5) 540).active = true ∧
    (scanning (Warning.powerOn w5) 540).warnings.scanOn = true ∧
    ((scanning (Warning.powerOn w5) 540).warn 5).cfg.enable = true ∧
    ((scanning (Warning.powerOn w5) 540).warn 31).cfg.enable = false := by decide +kernel

/-- W0 configured as W5 of 6.9, in a state with a delay and a reminder. -/
def stepping (st : WState) (acked : Bool) (delay reminder : Option Nat) : State :=
  let s := withWarn 0 { Warning.powerOn w5 with state := st, acked := acked, delay := delay, reminder := reminder }
  s.setWarnings { s.warnings with scanOn := true, blinkOn := true, proveOut := some 0 }

theorem witness_WarningStepsHandOn :
    (0 < 32 ∧ 31 < 32) ∧ ((stepping .inactive false none none).warn 0).state = .inactive ∧
    (((stepping .onDelay false (some 1) none).warn 0).state = .onDelay ∧
      ((stepping .onDelay false (some 1) none).warn 0).delay = some 1) ∧
    ((stepping .active false none none).warn 0).state = .active ∧
    (((stepping .offDelay true (some 1) none).warn 0).state = .offDelay ∧
      ((stepping .offDelay true (some 1) none).warn 0).delay = some 1 ∧
      ((stepping .offDelay true (some 1) none).warn 0).acked = true) ∧
    ((stepping .latched false none none).warn 0).state = .latched ∧
    (((stepping .active true none (some 1)).warn 0).acked = true ∧
      ((stepping .active true none (some 1)).warn 0).reminder = some 1) ∧
    ((stepping .active false none none).active = true ∧ (stepping .active false none none).warnings.scanOn = true ∧
      (stepping .active false none none).warnings.blinkOn = true ∧
      (stepping .active false none none).warnings.proveOut ≠ none) ∧
    ((run).warnings.blinkOn = false ∧ (run).warnings.proveOut = none) ∧
    ((1 : Nat) < 2 ∧ ((stepping .onDelay false (some 2) none).warn 0).delay = some 2) := by decide +kernel

/-- Which warnings show, and which of them are marked, by a list of 32. -/
theorem attention_law_of (s : State) (h : s.warnings.activation.Nodup)
    (h1 : ∀ i, i < 32 → (i ∈ s.warnings.activation ↔ (tget s.warnings.warnings i).state.showing = true))
    (h2 : ∀ i ∈ s.warnings.activation, i < 32)
    (h3 : s.warnings.attention = s.warnings.attentionOf .stop ++ s.warnings.attentionOf .caution ++
      s.warnings.attentionOf .info) : AttentionLaw s :=
  ⟨h, fun i => ⟨fun hi => ⟨h2 i hi, (h1 i (h2 i hi)).1 hi⟩, fun hi => (h1 i hi.1).2 hi.2⟩, h3⟩

/-- W0 active and alone in both lists, T4 at its pattern. -/
def attending : State :=
  let s := stepping .active false none none
  s.setWarnings { s.warnings with
    activation := [0], attention := [0], proveOut := none, telltales := tset s.warnings.telltales 4 ⟨.fast, .fast⟩ }

theorem attending_law : AttentionLaw attending :=
  attention_law_of _ (by decide) (by decide +kernel) (by decide) (by decide +kernel)

/-- What stands at a SLEEP entry: fault judgements, a shown warning, a lit telltale, a stop request, a permission. -/
theorem witness_AfterrunEntersReturnsAndEnds_standing :
    let s := attending.setPower { attending.power with mode := .afterrun }
    let d := s.setDoors { s.doors with stop := .assist, permission := true, run := .complete }
    s.power.mode = .afterrun ∧ FaultRecordsLaw s.faults.records ∧
    ((sampling ⟨.faultOpen, none, none⟩).sender 0).wiring.judgement = .faultOpen ∧
    ((coded ⟨.faultShort, none, none⟩).switch 0).wiring.judgement = .faultShort ∧
    ((capturing fun x => { x with wiring := ⟨.faultOpen, none, none⟩ }).chan 0).wiring.judgement = .faultOpen ∧
    (s.warn 0).state ≠ .inactive ∧ s.warnings.attention ≠ [] ∧ tget s.warnings.telltales 4 ≠ ⟨.off, .off⟩ ∧
    d.doors.stop ≠ .none ∧ d.doors.permission = true ∧ (serviced (filtered .run false)).faults.service = true := by
  refine ⟨by decide +kernel, ⟨by decide, by decide⟩, ?_⟩; decide +kernel

/-- A record of number `n`. -/
def recordOf (n : Nat) (active : Bool) : FaultRec := ⟨4096 + 16 * n + 1, active, 1, n + 1, 0, 0, 0, 0, 1, 0, none⟩

/-- AFTERRUN with a fault judged on an INTERLOCK output, a supply, a gauge, the tone line and a door, W0 (a record of the
log, its chime not ENDLESS) active, and a PASSIVE record in the memory. -/
def ailing : State :=
  let s := attending.setPower { attending.power with mode := .afterrun }
  let s := withOut 3 { s.out 3 with state := .supplyShort } (withOut 2 { s.out 2 with owner := .interlock, state := .openLoad } s)
  let s := withGauge 5 { s.gauge 5 with state := .fault } s
  let s := withDoor 3 { s.door 3 with stuck := true, implausible := true } s
  let s := (s.setSupply { s.supply with reported := true }).setChime { s.chime with fault := some .opened }
  s.setFaults { s.faults with records := [recordOf 0 false], counter := 2 }

theorem witness_AfterrunEntersReturnsAndEnds_faults :
    ailing.power.mode = .afterrun ∧ FaultRecordsLaw ailing.faults.records ∧
    ((ailing.out 2).state = .openLoad ∧ (ailing.out 2).owner = .interlock ∧ (ailing.out 3).state = .supplyShort) ∧
    (ailing.gauge 5).state = .fault ∧ ailing.supply.reported = true ∧ ailing.chime.fault = some .opened ∧
    (ailing.setChime { ailing.chime with fault := some .shorted }).chime.fault = some .shorted ∧
    ((ailing.door 3).stuck = true ∧ (ailing.door 3).implausible = true) ∧
    ((ailing.warn 0).cfg.log = true ∧ (ailing.warn 0).state = .active ∧ (ailing.warn 0).cfg.chime = some (2, .untilAck)) ∧
    (recordOf 0 false ∈ ailing.faults.records ∧ (recordOf 0 false).active = false) := by
  refine ⟨by decide +kernel, ⟨by decide +kernel, by decide +kernel⟩, ?_⟩; decide +kernel

theorem witness_AcknowledgementsSettle :
    (AttentionLaw attending ∧ attending.active = true ∧ attending.warnings.attention = 0 :: []) ∧
    (AttentionLaw run ∧ (run).warnings.attention = []) ∧
    (AttentionLaw (asking 0x52#8 attending) ∧ (asking 0x52#8 attending).asks 0x52#8 (slotOf 0x52#8) ∧
      0 ∈ (asking 0x52#8 attending).warnings.attention ∧ 31 ∉ (asking 0x52#8 attending).warnings.attention ∧ 31 < 32) := by
  refine ⟨⟨attending_law, by decide +kernel⟩, ⟨attention_law_of _ (by decide) (by decide +kernel) (by decide) (by decide +kernel), rfl⟩,
    attending_law, ?_⟩
  decide +kernel

theorem witness_WarningRequestsAreTaken :
    (asking 0x50#8).asks 0x50#8 (slotOf 0x50#8) ∧ (31 ≤ 31 ∧ ¬32 ≤ 31) ∧
    (1 ≤ w5.terms.length ∧ w5.terms.length ≤ 4 ∧ w5.telltale = some 4 ∧ w5.chime = some (2, .untilAck) ∧ w5.suppressor = none) ∧
    ((asking 0x50#8 attending).warn 0).cfg.chime ≠ none ∧ ((asking 0x50#8 attending).warn 0).state = .active ∧
    (asking 0x51#8).asks 0x51#8 (slotOf 0x51#8) ∧ (asking 0x53#8).asks 0x53#8 (slotOf 0x53#8) ∧
    (asking 0x55#8).asks 0x55#8 (slotOf 0x55#8) ∧ (asking 0x54#8).asks 0x54#8 (slotOf 0x54#8) ∧
    (asking 0x54#8 (inMode .afterrun)).power.mode ≠ .run := by decide +kernel

theorem witness_ChimeRequestsAreTaken :
    (asking 0x58#8).asks 0x58#8 (slotOf 0x58#8) ∧ (7 ≤ 7 ∧ ¬8 ≤ 7) ∧
    (c2.carrierA.high ≠ 0 ∧ c2.carrierA.low ≠ 0 ∧ c2.carrierB = some ⟨100, 100⟩ ∧ c2.priority ≤ 7) ∧
    (let s := asking 0x58#8 (sounding .mark 1 [])
     s.chime.state = .mark ∧ (s.chime.requests.map ChimeReq.arrival).Nodup) ∧
    (let s := asking 0x58#8 (sounding .space 1 [])
     s.chime.state = .space ∧ s.chime.sounding = some ⟨.stopLatch, 5, .once, false, false⟩) ∧
    ((asking 0x58#8).chime.state = .idle ∧ (asking 0x58#8 (sounding .gap 1 [])).chime.state = .gap ∧
      (asking 0x58#8 (sounding .tail 1 [])).chime.state = .tail) ∧
    (asking 0x5B#8).asks 0x5B#8 (slotOf 0x5B#8) ∧ ((asking 0x59#8).asks 0x59#8 (slotOf 0x59#8) ∧ 7 < 8) ∧
    ((tget (asking 0x59#8).chime.patterns 7).carrierA.high = 0 ∧ (asking 0x59#8 (inMode .sleep)).active = false) ∧
    ((tget (asking 0x59#8 (sounding .mark 1 [])).chime.patterns 5).carrierA.high ≠ 0 ∧
      (asking 0x59#8 (sounding .mark 1 [])).active = true) ∧ (asking 0x5A#8).asks 0x5A#8 (slotOf 0x5A#8) := by decide +kernel

theorem chime_law_sounding : ChimeListLaw (sounding .mark 1 []) := by
  refine ⟨by decide, by decide, by decide, by decide +kernel, ?_, ?_, ?_⟩ <;> simp [sounding, State.setChime]

theorem chime_law_run : ChimeListLaw run := by
  refine ⟨by decide, by decide, by decide, by decide +kernel, ?_, ?_, ?_⟩ <;> intro h <;> first | rfl | (revert h; decide)

/-- In SPACE another requester has the head to gain, and the stop latch may replace its own request; in TAIL a request of
the tail's priority waits. -/
theorem witness_ChimeListTakesRequests_silent :
    let s := sounding .space 1 []
    let u := s.setChime { s.chime with state := .tail, sounding := none, requests := [], tailPriority := 3 }
    (ChimeListLaw s ∧ s.active = true ∧ s.chime.sounding = some ⟨.stopLatch, 5, .once, false, false⟩ ∧
      (tget s.chime.patterns 5).priority < (tget s.chime.patterns 2).priority) ∧
    (ChimeListLaw u ∧ u.chime.state = .tail ∧ (∀ y, u.chime.sounding = some y → y.who ≠ .host) ∧
      u.chime.tailPriority < (tget u.chime.patterns 2).priority ∧
      ¬u.chime.tailPriority < (tget u.chime.patterns 5).priority) := by
  refine ⟨⟨⟨by decide, by decide, by decide, by decide +kernel, ?_, ?_, ?_⟩, by decide +kernel⟩,
    ⟨by decide, by decide, by decide, by decide +kernel, ?_, ?_, ?_⟩, rfl, ?_, by decide +kernel⟩ <;>
    simp [sounding, State.setChime]

theorem witness_ChimeListTakesRequests :
    (ChimeListLaw (sounding .mark 1 []) ∧ (sounding .mark 1 []).active = true ∧
      (tget (sounding .mark 1 []).chime.patterns 2).carrierA.high ≠ 0 ∧
      (tget (sounding .mark 1 []).chime.patterns 7).carrierA.high = 0 ∧
      ⟨.stopLatch, 5, .once, 0⟩ ∈ (sounding .mark 1 []).chime.requests ∧ (sounding .mark 1 []).chime.state = .mark) ∧
    (ChimeListLaw run ∧ (run).chime.state = .idle) ∧
    ((hand (.chimeWithdraw .host) (inMode .sleep)).powered = true ∧
      Handoff.chimeWithdraw .host ∈ (hand (.chimeWithdraw .host) (inMode .sleep)).handed) :=
  ⟨⟨chime_law_sounding, by decide +kernel⟩, ⟨chime_law_run, rfl⟩, by decide +kernel⟩

/-- A tone fault run or fault, in a mark at volume 2. -/
def toned (bad : Option (ToneFault × Nat)) (fault : Option ToneFault) (good : Option Nat) : State :=
  let s := sounding .mark 1 []
  s.setChime { s.chime with badRun := bad, fault := fault, goodRun := good }

/-- The stop chime at its last mark, its record with the silences given, and a host request of priority `q` behind it. -/
def finishing (space gap q : Nat) : State :=
  let s := sounding .mark 2 []
  s.setChime { s.chime with
    patterns := tset (tset s.chime.patterns 5 { c5 with space := space, gap := gap, priority := 3 }) 2 { c2 with priority := q },
    requests := if 3 < q then [⟨.host, 2, .once, 1⟩, ⟨.stopLatch, 5, .once, 0⟩]
      else [⟨.stopLatch, 5, .once, 0⟩, ⟨.host, 2, .once, 1⟩] }

theorem chime_law_finishing : ChimeListLaw (finishing 5 0 4) ∧ ChimeListLaw (finishing 5 0 3) ∧
    ChimeListLaw (finishing 0 0 3) := by
  refine ⟨?_, ?_, ?_⟩ <;> (refine ⟨by decide, by decide, by decide, by decide +kernel, ?_, ?_, ?_⟩ <;>
    simp [finishing, sounding, State.setChime])

/-- After the finish a head of equal priority waits in the tail, one of higher priority starts, and without a silence the
head starts at once (R125, R126). -/
theorem test_finish :
    (after .markExpiry (finishing 5 0 3)).chime.state = .tail ∧ (after .markExpiry (finishing 5 0 4)).chime.state = .mark ∧
      (after .markExpiry (finishing 0 0 3)).chime.state = .mark := by decide +kernel

theorem witness_PlaybackFollowsThePattern :
    (ChimeListLaw (finishing 5 0 4) ∧ ChimeListLaw (finishing 5 0 3) ∧ ChimeListLaw (finishing 0 0 3)) ∧
    (let s := sounding .space 1 []
     (s.setChime { s.chime with sounding := some ⟨.stopLatch, 5, .once, true, false⟩ }).chime.state = .space) ∧
    ((sounding .mark 1 []).chime.ticks ≤ 1 ∧ (sounding .mark 1 []).chime.level = true ∧
      1 < ((sounding .mark 1 []).chime.beginCycle).ticks) ∧
    let c (st : PlayState) (n : Nat) := (sounding st n []).chime
    (c .mark 1).sounding = some ⟨.stopLatch, 5, .once, false, false⟩ ∧
    ((c .mark 2).markCount = (tget (c .mark 2).patterns 5).groupSize ∧
      (c .mark 2).group = max 1 (tget (c .mark 2).patterns 5).repeats) ∧
    ((c .mark 1).markCount ≠ (tget (c .mark 1).patterns 5).groupSize ∧ (tget (c .mark 1).patterns 5).space ≠ 0) ∧
    (c .space 1).state = .space ∧ (c .gap 1).state = .gap ∧ (c .tail 1).state = .tail ∧ (run).chime.state ≠ .mark ∧
    ChimeListLaw (sounding .mark 1 []) ∧
    ((toned none none none).chime.state = .mark ∧ 1 ≤ (toned none none none).chime.drive) ∧
    ((toned (some (.opened, 180)) none none).chime.badRun = some (.opened, 180) ∧ 180 + 10 < 200) ∧
    ((toned (some (.opened, 190)) none none).chime.badRun = some (.opened, 190) ∧ 200 ≤ 190 + 10) ∧
    ((toned none (some .shorted) (some 190)).chime.fault = some .shorted ∧
      (toned none (some .shorted) (some 190)).chime.goodRun = some 190) := by
  refine ⟨chime_law_finishing, by decide, by decide +kernel, by decide +kernel, by decide +kernel, by decide +kernel, by decide,
    by decide, by decide, by decide, chime_law_sounding, ?_⟩
  decide +kernel

theorem witness_DoorsDeriveByTheTable :
    (rearDoor 0 false 0 0).active = true ∧ ((rearDoor 0 false 0 0).door 1).cfg.fitted = true ∧
    ((run).door 3).cfg.fitted = false ∧
    (((rearDoor 0 false 1 1).sig 24).quality = .valid ∧ ((rearDoor 0 false 1 1).sig 24).value = 1 ∧
      ((rearDoor 0 false 1 1).sig 25).value = 1) ∧
    (((rearDoor 0 false 0 0).sig 24).value = 0 ∧ ((rearDoor 0 false 0 0).sig 25).value = 0 ∧
      ((rearDoor 0 false 0 0).sig 26).quality = .valid) ∧
    ((rearDoor 2 true 1 0).door 1).opened = true ∧ ((rearDoor 2 true 1 0).door 1).sinceCommit + 1 < 16 ∧
    (let s := withDoor 1 { (rearDoor 2 true 1 0).door 1 with sinceCommit := 15 } (rearDoor 2 true 1 0)
     16 ≤ (s.door 1).sinceCommit + 1) ∧
    ((valid 26 2 (rearDoor 0 false 0 0)).sig 26).value ≠ 1 ∧
    ((rearDoor 0 false 0 0).sig 41).forced = false ∧ ((rearDoor 0 false 0 0).sig 41).cfg.rangeMin ≤ 0 ∧
    8 ≤ ((rearDoor 0 false 0 0).sig 41).cfg.rangeMax := by decide +kernel

/-- Door 1's timers as given. -/
def timed (implaus travel : Option Nat) : State :=
  withDoor 1 { (rearDoor 2 false 0 0).door 1 with implausTimer := implaus, travel := travel } (rearDoor 2 false 0 0)

theorem witness_DerivationsAreFollowed :
    (rearDoor 0 false 0 0).active = true ∧ ((rearDoor 0 false 0 0).sig 44).forced = false ∧
    (((rearDoor 0 false 0 0).sig 44).cfg.rangeMin ≤ 0 ∧ 4 ≤ ((rearDoor 0 false 0 0).sig 44).cfg.rangeMax) ∧
    (rearDoor 0 false 0 0).doors.run = .stopped ∧
    ((timed (some 0) none).active = true ∧ ((timed (some 0) none).door 1).implausTimer = some 0 ∧ 300000 ≤ 300000 - 0 ∧
      299999 - 0 < 300000) ∧
    (((timed none (some 0)).door 1).travel = some 0 ∧
      ((timed none (some 0)).door 1).cfg.travel * 1000000 ≤ 6000000 - 0) ∧
    (run).doors.refreshOn = false ∧ ((run).setDoors { (run).doors with refreshOn := true }).doors.refreshOn = true ∧
    (∀ i, i < 48 → 40 ≤ i → ((run).sig i).forced = false) := by decide +kernel

/-- A door found OPEN clears the assistance requested; one that leaves CLOSED after a complete run applies the interlock. -/
theorem witness_DerivationsAreFollowed_moves :
    (let s := (rearDoor 2 false 0 1).setDoors { (rearDoor 2 false 0 1).doors with stop := .assist }
     let t := after (.doorInputWrite 1) s
     s.active = true ∧ (s.sig 47).forced = false ∧ s.doors.stop = .assist ∧ t.doors.stop = .none) ∧
    (let s := (rearDoor 0 false 0 0).setDoors { (rearDoor 0 false 0 0).doors with run := .complete }
     let t := after (.doorInputWrite 1) s
     s.active = true ∧ (s.sig 46).forced = false ∧ s.doors.interlock = false ∧ t.doors.interlock = true) := by decide +kernel

theorem witness_PermissionAndInterlockAreDecided :
    ((valid 12 300).active = true ∧ ((valid 12 300).sig 12).quality = .valid ∧ (valid 12 300).doors.permission = false) ∧
    (reporting 16).link.enabled.getLsbD 3 = true ∧ ((run).doors.interlock = false ∧ (run).power.mode = .run) ∧
    ((run).setDoors { (run).doors with run := .running 0, interlock := true }).doors.interlock = true ∧ ((run).sig 12).quality ≠ .valid ∧
    (((run).sig 45).forced = false ∧ ((run).sig 45).cfg.rangeMin = 0 ∧ ((run).sig 45).cfg.rangeMax = 1) ∧
    ((hand .interlockOutput (inMode .sleep)).powered = true ∧
      Handoff.interlockOutput ∈ (hand .interlockOutput (inMode .sleep)).handed) ∧
    ((withOut 2 { (run).out 2 with owner := .interlock, state := .openLoad }).out 2).state = .openLoad ∧
    (run).doors.run = .stopped ∧
    ((run).doors.interlock = false ∧ (run).roleActive .override = false ∧ ((run).sig 46).forced = false ∧
      ((run).sig 46).cfg.rangeMin = 0 ∧ ((run).sig 46).cfg.rangeMax = 1) ∧
    (let s := (run).setDoors { (run).doors with run := .running 0 }
     s.doors.run = .running 0 ∧ s.doors.policy.delay.toNat * 1000 ≤ 500000 - 0 ∧
       499999 - 0 < s.doors.policy.delay.toNat * 1000) := by decide +kernel

theorem witness_StopRequestsAreLatched :
    ((rearDoor 2 false 0 0).active = true ∧ ((rearDoor 2 false 0 0).door 1).code ≠ 0) ∧
    (∀ d, d < 4 → ((rearDoor 0 false 1 0).door d).cfg.fitted = true → ((rearDoor 0 false 1 0).door d).code = 0) ∧
    (rearDoor 0 false 1 0).doors.stop = .none ∧
    (let s := (asking 0x62#8).setDoors { (run).doors with stop := .assist }
     s.asks 0x62#8 (slotOf 0x62#8) ∧ s.doors.stop ≠ .none ∧ s.doors.stop = .assist) ∧
    ((asking 0x62#8).asks 0x62#8 (slotOf 0x62#8) ∧ (asking 0x62#8).doors.stop = .none) ∧
    ((run).setDoors { (run).doors with stop := .stop }).doors.stop ≠ .assist ∧
    (reporting 16).link.enabled.getLsbD 4 = true ∧
    (((run).sig 47).forced = false ∧ ((run).sig 47).cfg.rangeMin = 0 ∧ ((run).sig 47).cfg.rangeMax = 2) ∧
    ((asking 0x60#8).asks 0x60#8 (slotOf 0x60#8) ∧ 7 ≤ 7 ∧ ¬8 ≤ 7) := by decide +kernel

theorem witness_DoorRequestsAreTaken :
    (asking 0x60#8).asks 0x60#8 (slotOf 0x60#8) ∧ (3 ≤ 3 ∧ ¬4 ≤ 3) ∧
    ((23 : Nat) ≤ 23 ∧ [23, 5].Nodup ∧ ¬[23, 23].Nodup ∧ doorAssigns ((asking 0x60#8).door 0).cfg 23 = false ∧
      ((asking 0x60#8).switch 23).cfg.role = .none) ∧
    (asking 0x60#8 (inMode .sleep)).active = false ∧
    (let s := asking 0x60#8 (withDoor 1 { (run).door 1 with implausible := true, stuck := true })
     s.active = true ∧ (s.door 1).implausible = true ∧ (s.door 1).stuck = true ∧ (s.sig 41).forced = false ∧
       (s.sig 41).cfg.rangeMin ≤ 0 ∧ 8 ≤ (s.sig 41).cfg.rangeMax ∧ (s.sig 44).forced = false ∧
       (s.sig 44).cfg.rangeMin ≤ 0 ∧ 4 ≤ (s.sig 44).cfg.rangeMax ∧ s.doors.run = .stopped) ∧
    (let s := asking 0x60#8 (withSig 39 { (run).sig 39 with forced := true })
     (s.sig (16 + 23)).forced = true ∧ (s.sig (16 + 5)).forced = false) ∧
    ((asking 0x63#8 (valid 12 301)).asks 0x63#8 (slotOf 0x63#8) ∧ ((asking 0x63#8 (valid 12 301)).sig 12).quality = .valid) ∧
    (asking 0x63#8 ((run).setDoors { (run).doors with run := .running 0 })).doors.run = .running 0 ∧
    (asking 0x61#8).asks 0x61#8 (slotOf 0x61#8) := by decide +kernel

/-- A policy judged on the parking brake alone, one that ends a running secured run, and a DOOR_CONFIG by which a door is
found OPEN while assistance is asked (R134, R142 to R145, R150). -/
theorem witness_DoorRequestsAreTaken_moves :
    (let s := asking 0x63#8 (valid 18 1 (withSwitch 2 { factorySwitch with role := .parkingBrake }))
     let t := after (.doorPolicy .good ⟨300, 200, 500⟩) s
     s.active = true ∧ (s.sig 12).quality ≠ .valid ∧ s.doors.permission = false ∧ t.doors.permission = true ∧
       (t.sig 45).value = 1 ∧ (s.sig 45).forced = false) ∧
    (let s := asking 0x63#8 ((run).setDoors { (run).doors with run := .running 0, interlock := true })
     let t := after (.doorPolicy .good ⟨300, 200, 0⟩) s
     t.doors.run = .complete ∧ t.doors.interlock = false ∧ (s.sig 46).forced = false) ∧
    (let s := asking 0x60#8 ((rearDoor 2 false 0 1).setDoors { (rearDoor 2 false 0 1).doors with stop := .assist })
     let t := after (.doorConfig .good 1 ⟨true, some 8, none, some 9, some 10, none, 6⟩) s
     (t.door 1).code = 3 ∧ t.doors.stop = .none ∧ (s.sig 47).forced = false) := by decide +kernel

theorem witness_FaultCodesFollowTheTables : (asking 0x72#8).asks 0x72#8 (slotOf 0x72#8) ∧
    (definedCode 0x100B = false ∧ definedCode 0 = false ∧ definedCode 65535 = false) ∧
    (asking 0x72#8 serviced).faults.service = true := by decide +kernel

/-- `n` records numbered from 1, the counter as given. -/
def remembering (n : Nat) (active : Bool) (counter : Nat) : State :=
  (run).setFaults { (run).faults with records := (List.range n).map fun i => recordOf i active, counter := counter }

theorem witness_FaultReportsMakeRecords :
    (FaultRecordsLaw (remembering 1 true 2).faults.records ∧ (remembering 1 true 2).powered = true ∧
      recordOf 0 true ∈ (remembering 1 true 2).faults.records ∧ (recordOf 0 true).code = 4097) ∧
    (FaultRecordsLaw (remembering 1 false 2).faults.records ∧ recordOf 0 false ∈ (remembering 1 false 2).faults.records) ∧
    (∀ r ∈ (remembering 23 false 24).faults.records, r.code ≠ 4161 + 4096) ∧
    (FaultRecordsLaw (remembering 23 false 24).faults.records ∧ (remembering 23 false 24).faults.records.length < 24 ∧
      ¬(remembering 23 false 24).faults.counter = 4294967295) ∧
    (FaultRecordsLaw (remembering 24 false 25).faults.records ∧ (remembering 24 false 25).faults.records.length = 24 ∧
      recordOf 0 false ∈ (remembering 24 false 25).faults.records ∧
      (∀ q ∈ (remembering 24 false 25).faults.records, q.active = false → q ≠ recordOf 0 false →
        q.healing = (recordOf 0 false).healing ∧ (recordOf 0 false).occurrences = q.occurrences ∧
          (recordOf 0 false).seq < q.seq)) ∧
    ((remembering 24 true 25).faults.records.length = 24 ∧ (∀ r ∈ (remembering 24 true 25).faults.records, r.active = true)) ∧
    State.reset.powered = false := by
  refine ⟨⟨⟨by decide, by decide⟩, by decide +kernel⟩, ⟨⟨by decide, by decide⟩, by decide +kernel⟩, by decide +kernel,
    ⟨⟨by decide +kernel, by decide +kernel⟩, by decide +kernel⟩, ⟨⟨by decide +kernel, by decide +kernel⟩, by decide +kernel⟩, ?_⟩
  decide +kernel

theorem witness_FaultsAreReadAndCleared :
    (let s := asking 0x71#8 (remembering 24 false 25)
     FaultRecordsLaw s.faults.records ∧ s.asks 0x71#8 (slotOf 0x71#8)) ∧
    (let s := asking 0x70#8 (remembering 24 false 25)
     s.asks 0x70#8 (slotOf 0x70#8) ∧ recordOf 0 false ∈ s.faults.records ∧ s.faults.cursor < (recordOf 0 false).seq ∧
       (∀ q ∈ s.faults.records, q ≠ recordOf 0 false → (recordOf 0 false).seq < q.seq)) ∧
    (∀ r ∈ (asking 0x70#8).faults.records, r.seq ≤ (asking 0x70#8).faults.cursor) ∧
    ((asking 0x73#8).asks 0x73#8 (slotOf 0x73#8) ∧ 4 < [0, 1, 2, 3, 4].length ∧ [0, 1, 2, 63].length ≤ 4 ∧ 63 < 64) ∧
    (asking 0x74#8).asks 0x74#8 (slotOf 0x74#8) ∧
    ((asking 0x72#8).asks 0x72#8 (slotOf 0x72#8) ∧ definedCode 4097 = true ∧ definedCode 4099 = false ∧
      (asking 0x72#8).faults.service = false) ∧
    ((asking 0x72#8 (serviced (remembering 1 false 2))).faults.service = true ∧
      recordOf 0 false ∈ (asking 0x72#8 (serviced (remembering 1 false 2))).faults.records) ∧
    ((asking 0x72#8 (serviced (remembering 2 true 3))).faults.service = true ∧
      recordOf 0 true ∈ (asking 0x72#8 (serviced (remembering 2 true 3))).faults.records) := by
  refine ⟨⟨⟨by decide +kernel, by decide +kernel⟩, by decide +kernel⟩, ?_⟩; decide +kernel

/-- The bus stands on its parking brake K2, record 12 at `v` (9.12). -/
def braked (v : Int) : State :=
  valid 12 v (valid 18 1 (withSwitch 2 { factorySwitch with role := .parkingBrake }))

theorem witness_ServiceModeIsGuarded :
    (((asking 0x78#8).sig 51).forced = false ∧ ((asking 0x78#8).sig 51).cfg.rangeMin = 0 ∧
      ((asking 0x78#8).sig 51).cfg.rangeMax = 1) ∧
    ((asking 0x78#8).asks 0x78#8 (slotOf 0x78#8) ∧ ((asking 0x78#8).sig 12).quality ≠ .valid) ∧
    (let s := asking 0x78#8 (braked 50)
     s.power.mode = .run ∧ (s.sig 12).quality = .valid ∧ (s.sig 12).value ≤ 50 ∧ ¬(51 : Int) ≤ 50 ∧
       s.roleActive .parkingBrake = true ∧ s.faults.service = false) ∧
    (asking 0x78#8 (serviced (braked 0))).faults.service = true ∧
    ((asking 0x79#8).asks 0x79#8 (slotOf 0x79#8) ∧ (asking 0x79#8).faults.service = false) ∧
    ((asking 0x79#8 serviced).asks 0x79#8 (slotOf 0x79#8) ∧ (asking 0x79#8 serviced).faults.service = true) ∧
    (serviced.active = true ∧ serviced.faults.service = true ∧ (300 : Int) < 301 ∧ (300 : Int) ≤ 300) ∧
    ((hand (.brakeChange false) (inMode .sleep)).powered = true ∧
      Handoff.brakeChange false ∈ (hand (.brakeChange false) (inMode .sleep)).handed) ∧
    ((run).setFaults { (run).faults with refreshOn := true }).faults.refreshOn = true ∧ (run).faults.refreshOn = false := by
  decide +kernel

/-! ### The laws hold of a part in RUN, and it takes a step -/

/-- RUN with the interlock applied and a command waiting. -/
def waiting : State :=
  ((run).setDoors { (run).doors with interlock := true }).setPending [.signalAgeTick]

theorem waiting_steps : ∃ t, step waiting = .next t := ⟨_, rfl⟩

theorem witness_SignalsStayInRange : SignalRangeLaw waiting ∧ ∃ t, step waiting = .next t := by
  refine ⟨⟨?_, ?_, ?_⟩, waiting_steps⟩
  · have h : ∀ r ∈ waiting.signals.toList, r.cfg.rangeMin ≤ r.cfg.rangeMax ∧ r.cfg.substitute = none ∧
        r.cfg.rangeMin ≤ r.value ∧ r.value ≤ r.cfg.rangeMax := by decide +kernel
    intro r hr
    obtain ⟨h1, h2, h3⟩ := h r hr
    exact ⟨⟨h1, fun v hv => by simp [h2] at hv⟩, h3⟩
  · have h : ∀ c ∈ waiting.store.config.signals.toList, c.rangeMin ≤ c.rangeMax ∧ c.substitute = none := by decide +kernel
    intro c hc
    exact ⟨(h c hc).1, fun v hv => by simp [(h c hc).2] at hv⟩
  · intro w im hw; cases hw

theorem witness_QueuesKeepTheirShape : ReportQueueLaw (reporting 16) ∧
    CommitListLaw (writing .faults [.config, .counters, .doorCounts, .faults]) ∧ RequestBufferLaw (asking 0x02#8) ∧
    (∃ t, step (reporting 16) = .next t) ∧ (∃ t, step (asking 0x02#8) = .next t) ∧
    ∃ t, step (writing .faults [.config, .counters, .doorCounts, .faults]) = .next t :=
  ⟨⟨by decide +kernel, by decide +kernel⟩, by unfold CommitListLaw; decide, asking_law _ _ _ rfl rfl rfl, ⟨_, rfl⟩, ⟨_, rfl⟩, ⟨_, rfl⟩⟩

theorem witness_FaultMemoryStaysWithinBounds : FaultMemoryLaw (remembering 24 true 25) ∧
    ∃ t, step (remembering 24 true 25) = .next t :=
  ⟨⟨⟨by decide +kernel, by decide +kernel⟩, ⟨by decide +kernel, by decide +kernel⟩, by intro w im hw; cases hw⟩, ⟨_, rfl⟩⟩

theorem witness_InterlockFollowsTheDoors : InterlockLaw waiting ∧ (∃ t, step waiting = .next t) ∧
    (let s := doorStored.setPending [.partStart true 0]; DoorInputLaw s ∧ ∃ t, step s = .next t) ∧
    (let s := (rearDoor 2 false 0 0).setDoors { (rearDoor 2 false 0 0).doors with interlock := true }
     InterlockLaw s ∧ s.power.mode = .run ∧ s.doors.overrideRead = false ∧
       ∃ d, d < 4 ∧ (s.door d).cfg.fitted = true ∧ (s.door d).code ≠ 0) :=
  ⟨⟨rfl, by decide +kernel⟩, waiting_steps, ⟨doorStored_lawful, _, rfl⟩, ⟨rfl, by decide +kernel⟩, rfl, rfl, 1,
    by decide +kernel⟩

theorem witness_NoStopRequestWithAnOpenDoor :
    (let s := (rearDoor 0 false 1 0).setDoors { (rearDoor 0 false 1 0).doors with stop := .stop }
     StopLatchLaw s ∧ s.doors.stop ≠ .none ∧ ∃ t, step s = .next t) := by
  refine ⟨fun _ => ⟨by decide +kernel, by decide +kernel⟩, by decide +kernel, _, rfl⟩

theorem witness_OutputForcesEndWithTheServiceMode :
    (let s := withOut 6 { (run).out 6 with force := some true, state := .on, shortCount := 3 } serviced
     OutputForceLaw s ∧ (s.out 6).force = some true ∧ ∃ t, step s = .next t) := by
  refine ⟨?_, by decide +kernel, _, rfl⟩
  have h : ∀ o ∈ (withOut 6 { (run).out 6 with force := some true, state := .on, shortCount := 3 } serviced).outputs.outs.toList,
      (o.force ≠ none → (serviced).outputs.service = true) ∧ o.owner = .none ∧ o.shortCount ≤ 3 := by decide +kernel
  intro o ho
  obtain ⟨-, h2, h3⟩ := h o ho
  refine ⟨fun hs => ?_, fun hi => ?_, h3⟩
  · exact absurd hs (by decide +kernel)
  · rw [h2] at hi; cases hi

theorem factory_gauge_lawful : (Gauge.powerOn factoryGauge).lawful true := by
  refine ⟨⟨by decide, by decide⟩, ⟨by decide, by decide⟩, by decide, by decide, ?_⟩
  exact ⟨fun τ h => by simp [Gauge.powerOn] at h, fun q h => by simp [Gauge.powerOn] at h⟩

theorem witness_PointersStayWithinTheScale : GaugeScaleLaw waiting ∧ ∃ t, step waiting = .next t := by
  refine ⟨⟨?_, by unfold gaugeInScale; decide +kernel, (by intro w im hw; cases hw), by decide +kernel⟩, waiting_steps⟩
  have h : ∀ x ∈ waiting.gauges.gauges.toList, x = Gauge.powerOn factoryGauge := by decide +kernel
  intro x hx
  rw [h x hx]
  exact factory_gauge_lawful

theorem witness_ChimeListKeepsItsOrder : ChimeListLaw (sounding .mark 1 []) ∧ ∃ t, step (sounding .mark 1 []) = .next t :=
  ⟨chime_law_sounding, _, rfl⟩

theorem witness_WarningListsStaySettled : AttentionLaw attending ∧ TelltaleLaw attending ∧
    ∃ t, step attending = .next t := ⟨attending_law, by unfold TelltaleLaw; decide +kernel, _, rfl⟩

theorem witness_LockoutsAndTotalsStand :
    (let s := withOut 15 { (run).out 15 with state := .lockedOut } carrying
     (∃ t, step s = .next t ∧ t.powered = true) ∧ s.powered = true ∧ s.link.resetPending = false ∧
       (s.out 15).state = .lockedOut ∧ totalOk s.distance.record.total ∧ s.distance.record.totalValid = true) := by
  refine ⟨⟨_, rfl, by decide +kernel⟩, by decide +kernel, by decide +kernel, by decide +kernel, ⟨by decide, by decide⟩, rfl⟩

end Sys2Proof.Tests
end

section
/-!
PROOFS. The trip counters (04, R69): what TRIP_RESET does to the counter record, and what it leaves alone.
-/
namespace Sys2Proof.Machine

/-! ### Frames from the touches of an operation -/

/-- Every block of a state reads as itself. -/
theorem Block.same_refl (c : Block) (s : State) : c.same s s := by cases c <;> rfl

/-- An operation made of the touches in `B` keeps every block that none of them may alter. -/
theorem State.keepsAllBut_of_touches {B : List Touch} {but_ : List Block} {s t : State}
    (hB : ∀ a ∈ B, ∀ b ∈ a.blocks, b ∈ but_) (h : ∀ Q, Closed B Q → Q s → Q t) : s.keepsAllBut but_ t := by
  intro c hc
  refine h (c.same s) (Closed.same s c ?_) (c.same_refl s)
  rw [List.all_eq_true]
  intro a ha
  have hca : c ∉ a.blocks := fun hm => hc (hB a ha c hm)
  simpa using hca

/-! ### The counter record, replaced and queued for commit -/

/-- Queueing an item and serving the list leaves the distance counters alone. -/
theorem serve_enqueue_distance (i : Item) (s : State) : (serve (enqueue i s)).distance = s.distance :=
  serve_keeps (Closed.same s .distance (by decide)) (enqueue_keeps (Closed.same s .distance (by decide)) rfl)

/-- A counter record that is replaced and queued stands as it was put, beside r, the sub-accumulator and the gate as
before. -/
theorem setCounters_queued_distance (c : Counters) (s : State) :
    (serve (enqueue .counters (setCounters c s))).distance = { s.distance with record := c } :=
  serve_enqueue_distance .counters (setCounters c s)

/-! ### TRIP_RESET (R69) -/

/-- TRIP_RESET touches the counters and the commit list alone. -/
theorem tripReset_keepsAllBut (trip : Trip) (s : State) :
    s.keepsAllBut [.distance, .power] (tripReset trip s).state :=
  State.keepsAllBut_of_touches (by decide) fun _ h hs => tripReset_keeps h trip hs

/-- TRIP_RESET queues the counter record. -/
theorem tripReset_queues (trip : Trip) (s : State) : s.queues [.counters] (tripReset trip s).state := by
  cases trip <;> exact serve_enqueue_queues .counters rfl

theorem tripReset_a_distance (s : State) : (tripReset .a s).state.distance =
    { s.distance with record := { s.distance.record with tripA := [0, 0, 0, 0, 0] } } :=
  setCounters_queued_distance _ s

theorem tripReset_b_distance (s : State) : (tripReset .b s).state.distance =
    { s.distance with record := { s.distance.record with tripB := [0, 0, 0, 0, 0] } } :=
  setCounters_queued_distance _ s

/-- A request TRIP_RESET in hand is answered by what its checked body gives. -/
theorem exec_tripReset {s : State} {x : Slot} (b : BodyForm) (trip : Trip) (h : s.asks 0x31#8 x) :
    exec (.tripReset b trip) s =
      let a := checked b (tripReset trip) x.body s
      .next (a.state.replied x a.result a.body a.rate) :=
  congrArg Host.Outcome.next (handle_asks (checked b (tripReset trip)) h)

/-- Settles O28: the refusal is the one every checked body shares; a well-formed body reaches `tripReset`, whose frame,
commit and record are the lemmas above. -/
theorem tripResetClearsOneTrip : Obligations.TripResetClearsOneTrip := by
  intro s x trip h
  refine ⟨?refused, (tripReset trip s).state, ?answered, tripReset_keepsAllBut trip s, tripReset_queues trip s,
    ?record⟩
  case refused => rw [exec_tripReset _ _ h, checked_range rfl rfl]; rfl
  case answered => rw [exec_tripReset _ _ h, checked_good]; rfl
  case record =>
    cases trip with
    | a => exact tripReset_a_distance s
    | b => exact tripReset_b_distance s

end Sys2Proof.Machine
end

section
/-!
PROOFS. The fault codes (9.1, R154): the number a code is made of can be read back from it, so the codes that
`definedCode` passes are those of the class table; and FAULT_CLEAR refuses every other.
-/
namespace Sys2Proof.Machine

/-! ### The class table of 9.1 -/

/-- The class table of 9.1: class `c` has the index `i`, and the symptom `y` stands in its row for that index (R154). -/
def FaultClass.lists (c : FaultClass) (i : Nat) (y : Symptom) : Prop :=
  match c with
  | .sender => i ≤ 11 ∧ (y = .opened ∨ y = .shorted)
  | .switch => i ≤ 23 ∧ (y = .opened ∨ y = .shorted)
  | .pulse => i ≤ 3 ∧ (y = .opened ∨ y = .shorted)
  | .output => i ≤ 15 ∧ (y = .shorted ∨ y = .opened ∨ y = .supplyShort ∨ y = .lockedOut)
  | .gauge => i ≤ 5 ∧ y = .coilOpen
  | .door => i ≤ 3 ∧ (y = .implausible ∨ y = .stuck)
  | .tone => i = 0 ∧ (y = .opened ∨ y = .shorted)
  | .supply => i = 0 ∧ y = .underVoltage
  | .store => (i = 0 ∧ y = .configLost) ∨ ((i = 1 ∨ i = 2) ∧ y = .countersLost)
  | .warning => i ≤ 31 ∧ y = .event

/-- Every index of the class table fits its eight bits of the code. -/
theorem FaultClass.index_lt_of_lists {c : FaultClass} {i : Nat} {y : Symptom} (h : c.lists i y) : i < 256 := by
  cases c <;> simp only [FaultClass.lists] at h <;> omega

/-! ### Reading a code back -/

/-- A symptom number fits its four bits of the code. -/
theorem symptomNumber_lt (y : Symptom) : symptomNumber y < 16 := by cases y <;> decide

/-- No two symptoms share a number. -/
theorem symptomNumber_inj {y z : Symptom} : symptomNumber y = symptomNumber z ↔ y = z := by
  cases y <;> cases z <;> decide

/-- Each of the numbers 1 to 11 is a symptom's. -/
theorem exists_symptomNumber {n : Nat} (h1 : 1 ≤ n) (h11 : n ≤ 11) : ∃ y, symptomNumber y = n :=
  match n, h1, h11 with
  | 1, _, _ => ⟨.opened, rfl⟩
  | 2, _, _ => ⟨.shorted, rfl⟩
  | 3, _, _ => ⟨.supplyShort, rfl⟩
  | 4, _, _ => ⟨.lockedOut, rfl⟩
  | 5, _, _ => ⟨.implausible, rfl⟩
  | 6, _, _ => ⟨.stuck, rfl⟩
  | 7, _, _ => ⟨.coilOpen, rfl⟩
  | 8, _, _ => ⟨.underVoltage, rfl⟩
  | 9, _, _ => ⟨.configLost, rfl⟩
  | 10, _, _ => ⟨.countersLost, rfl⟩
  | 11, _, _ => ⟨.event, rfl⟩

/-- Each of the numbers 1 to 10 is a class's. -/
theorem exists_classNumber {n : Nat} (h1 : 1 ≤ n) (h10 : n ≤ 10) : ∃ c, classNumber c = n :=
  match n, h1, h10 with
  | 1, _, _ => ⟨.sender, rfl⟩
  | 2, _, _ => ⟨.switch, rfl⟩
  | 3, _, _ => ⟨.pulse, rfl⟩
  | 4, _, _ => ⟨.output, rfl⟩
  | 5, _, _ => ⟨.gauge, rfl⟩
  | 6, _, _ => ⟨.door, rfl⟩
  | 7, _, _ => ⟨.tone, rfl⟩
  | 8, _, _ => ⟨.supply, rfl⟩
  | 9, _, _ => ⟨.store, rfl⟩
  | 10, _, _ => ⟨.warning, rfl⟩

/-- Class, index and symptom number, as `definedCode` cuts them out of a code. -/
theorem faultCode_parts (c : FaultClass) {i : Nat} (y : Symptom) (hi : i < 256) :
    faultCode c i y / 4096 = classNumber c ∧ faultCode c i y % 4096 / 16 = i ∧ faultCode c i y % 16 = symptomNumber y := by
  have hy := symptomNumber_lt y
  unfold faultCode
  omega

/-! ### The defined codes -/

/-- With its class, index and symptom read back, a code is defined just when they stand in one row: both sides say the
same of the symptom's number. -/
theorem definedCode_faultCode (c : FaultClass) {i : Nat} (y : Symptom) (hi : i < 256) :
    definedCode (faultCode c i y) = true ↔ c.lists i y := by
  obtain ⟨hclass, hindex, hsymptom⟩ := faultCode_parts c y hi
  simp only [definedCode, hclass, hindex, hsymptom]
  cases c <;>
    simp only [classNumber, FaultClass.lists, ← symptomNumber_inj, symptomNumber, Bool.and_eq_true, Bool.or_eq_true,
      beq_iff_eq, decide_eq_true_eq] <;>
    omega

/-- A defined code has a class number and a symptom number of the tables. -/
theorem definedCode_numbers {code : Nat} (h : definedCode code = true) :
    (1 ≤ code / 4096 ∧ code / 4096 ≤ 10) ∧ 1 ≤ code % 16 ∧ code % 16 ≤ 11 := by
  unfold definedCode at h
  split at h <;>
    simp only [Bool.and_eq_true, Bool.or_eq_true, beq_iff_eq, decide_eq_true_eq, Bool.false_eq_true] at h <;> omega

/-- A defined code is made of a class, the index read from it and a symptom. -/
theorem exists_faultCode_of_definedCode {code : Nat} (h : definedCode code = true) :
    ∃ c y, code = faultCode c (code % 4096 / 16) y := by
  obtain ⟨⟨hc1, hc10⟩, hy1, hy11⟩ := definedCode_numbers h
  obtain ⟨c, hc⟩ := exists_classNumber hc1 hc10
  obtain ⟨y, hy⟩ := exists_symptomNumber hy1 hy11
  refine ⟨c, y, ?_⟩
  rw [faultCode, hc, hy]
  omega

/-- The defined codes are those of the class table. -/
theorem definedCode_iff {code : Nat} : definedCode code = true ↔ ∃ c i y, FaultClass.lists c i y ∧ code = faultCode c i y := by
  constructor
  · intro h
    obtain ⟨c, y, e⟩ := exists_faultCode_of_definedCode h
    have hi : code % 4096 / 16 < 256 := by omega
    exact ⟨c, _, y, (definedCode_faultCode c y hi).1 (e ▸ h), e⟩
  · rintro ⟨c, i, y, hl, rfl⟩
    exact (definedCode_faultCode c y (FaultClass.index_lt_of_lists hl)).2 hl

/-! ### FAULT_CLEAR (R154) -/

/-- FAULT_CLEAR of an undefined code is refused with RANGE, in the service mode and out of it (log 14). -/
theorem faultClear_undefined {code : Nat} (s : State) (h : definedCode code = false) :
    faultClear (.code code) s = refuse .range s := by simp [faultClear, h]

/-- A request FAULT_CLEAR in hand is answered by what its checked body gives. -/
theorem exec_faultClear {s : State} {x : Slot} (b : BodyForm) (sc : ClearScope) (h : s.asks 0x72#8 x) :
    exec (.faultClear b sc) s =
      let a := checked b (faultClear sc) x.body s
      .next (a.state.replied x a.result a.body a.rate) :=
  congrArg Host.Outcome.next (handle_asks (checked b (faultClear sc)) h)

/-- A request FAULT_CLEAR of an undefined code is answered RANGE, and nothing else changes. -/
theorem exec_faultClear_undefined {s : State} {x : Slot} {code : Nat} (h : s.asks 0x72#8 x)
    (hc : definedCode code = false) : exec (.faultClear .good (.code code)) s = .next (s.replied x .range) := by
  rw [exec_faultClear _ _ h, checked_good, faultClear_undefined s hc]; rfl

/-- Settles O46: the numbers are the model's tables; the defined codes are `definedCode_iff`, by which a code of no row
is undefined, and so is refused with RANGE in either mode. -/
theorem faultCodesFollowTheTables : Obligations.FaultCodesFollowTheTables := by
  refine ⟨?number, fun _ => definedCode_iff, ?refused⟩
  case number => intro c i y; cases c <;> cases y <;> rfl
  case refused =>
    intro s x code h hnone
    have hundefined : definedCode code = false := by
      rw [Bool.eq_false_iff]
      intro hdef
      obtain ⟨c, i, y, hl, e⟩ := definedCode_iff.1 hdef
      exact hnone c i y hl e
    have hrange := exec_faultClear_undefined h hundefined
    exact ⟨fun _ => hrange, .inl hrange⟩

end Sys2Proof.Machine
end
